-- ==== Sys2Proof/Word.lean ====
section
/-! DEFINITION. The widths of L3CC's values (00_scope.md R9, R10): bit 0 is the least significant bit of every value,
and every value is unsigned unless it is called signed. -/

namespace Sys2Proof

/-- An MMIO register, a command word, a DMA address: 32 bits (R9). -/
abbrev Word := BitVec 32

/-- A shadow register or a timing register: 16 bits (R9). -/
abbrev Half := BitVec 16

/-- A byte of a control frame, a shadow address field, a byte lane: 8 bits (R9, R62, R82). -/
abbrev Byte := BitVec 8

end Sys2Proof
end

