-- ==== Sys2Proof/Config.lean ====
section
/-! DEFINITION. The implementation parameters of 00_scope.md R8, and the free values. Every opaque constant below has no
body: no proof can see its value, so what is proved holds for every value the spec leaves OPEN. -/

namespace Sys2Proof

/-- How the parameter DMA_CTRL_ENCODE of R8 is given (log 4). A state holds no function, so the parameter is held as a
choice between the spec's example and the unconstrained total function. -/
inductive CtrlEncode where
  /-- The example configuration of 95_test_vectors.md section 0: the count itself. -/
  | identity
  /-- The platform's function, of which nothing is known: `Config.dmaCtrlEncode`. -/
  | platform
deriving DecidableEq, Repr

/-- The parameters of R8 that a rule reads. They are fixed for a machine: no step changes them (log 3). F_CLK is not among
them, since it affects timing only (log 15). -/
structure Params where
  /-- REG_COUNT, the number of shadow registers. -/
  regCount : Nat
  /-- REG_RESET, the address of the reset/identity register. -/
  regReset : Nat
  /-- QUIRK_HPL, the first headphone-volume address with the forced bit. -/
  quirkHPL : Nat
  /-- QUIRK_HPR, the second one. -/
  quirkHPR : Nat
  /-- REG_DEFAULTS, the power-on default of each address. -/
  regDefaults : List Half
  /-- CODEC_FIFO_ADDR, the destination of every descriptor. -/
  codecFifoAddr : Word
  /-- DMA_CTRL_ENCODE. -/
  ctrlEncode : CtrlEncode
  /-- DMA_LATE_DONE: whether the channel may signal one completion after a STOP. -/
  dmaLateDone : Bool
  /-- L3CC_BASE, the address of the MMIO window on the host's bus. -/
  l3ccBase : Nat
deriving DecidableEq, Repr

/-- The constraints R8 puts on its parameters. -/
abbrev Params.wf (p : Params) : Prop :=
  1 ≤ p.regCount ∧ p.regCount ≤ 128 ∧ p.regReset < p.regCount ∧ p.quirkHPL < p.regCount ∧
    p.quirkHPR < p.regCount ∧ p.quirkHPL ≠ p.quirkHPR ∧ p.regDefaults.length = p.regCount

/-- Seeds REG_COUNT, which lies in 2..128: R8 bounds it by 128, and its two distinct quirk addresses need two registers
(DEDUCED, log 3). -/
opaque Config.regCountSeed : Fin 127

/-- Seeds REG_RESET (R8, OPEN). -/
opaque Config.regResetSeed : Nat

/-- Seeds QUIRK_HPL (R8, OPEN). -/
opaque Config.quirkHPLSeed : Nat

/-- Seeds the distance from QUIRK_HPL to QUIRK_HPR (R8, OPEN). -/
opaque Config.quirkHPRSeed : Nat

/-- REG_DEFAULTS by address (R8, OPEN; N5: nothing may be assumed of it). -/
opaque Config.regDefault : Nat → Half

/-- CODEC_FIFO_ADDR (R8, OPEN). -/
opaque Config.codecFifoAddr : Word

/-- DMA_CTRL_ENCODE (R8, OPEN): a total function from a transfer count to the channel's control word. -/
opaque Config.dmaCtrlEncode : Word → Word

/-- DMA_LATE_DONE (R8; its default is true, and U14 makes it a parameter). -/
opaque Config.dmaLateDone : Bool

/-- L3CC_BASE (R8, OPEN). -/
opaque Config.l3ccBase : Nat

/-- The free values: a word the spec leaves unspecified (R33 and R250: the channel's src, dst and ctrl at reset), a new
one for each index (log 5). -/
opaque Config.freeWord : Nat → Word

/-- REG_COUNT of the machine whose reset state is `State.reset`. -/
def Config.regCount : Nat := Config.regCountSeed.val + 2

/-- QUIRK_HPL of that machine. -/
def Config.quirkHPL : Nat := Config.quirkHPLSeed % Config.regCount

/-- The parameters of that machine: any that meet R8, and no known ones (log 3). -/
def Config.params : Params where
  regCount := Config.regCount
  regReset := Config.regResetSeed % Config.regCount
  quirkHPL := Config.quirkHPL
  quirkHPR := (Config.quirkHPL + 1 + Config.quirkHPRSeed % (Config.regCount - 1)) % Config.regCount
  regDefaults := (List.range Config.regCount).map Config.regDefault
  codecFifoAddr := Config.codecFifoAddr
  ctrlEncode := .platform
  dmaLateDone := Config.dmaLateDone
  l3ccBase := Config.l3ccBase

end Sys2Proof
end

