-- ==== Sys2Proof/Machine/State.lean ====
section
/-! DEFINITION. The state of L3CC and of the environment a model of it must carry (10_state.md), and the state after reset
(70_reset_and_hazards.md R250). -/

namespace Sys2Proof.Machine

/-- The error codes that are ever written to STATUS.ERR (60_exceptions.md R220). Codes 9 to 15 are reserved and never
written, so they are no constructor. -/
inductive ErrCode where
  /-- 0: no error. -/
  | ok
  /-- 1 OUT_OF_RANGE: register address outside the valid span (R144). -/
  | outOfRange
  /-- 2 LINK_ERROR: fewer bytes sent than the frame has (R145). -/
  | linkError
  /-- 3 INVALID_FREQUENCY: a zero input to the PLL calculator, or a halved source of 0 (R163). -/
  | invalidFrequency
  /-- 4 INVALID_COMMAND: unrecognized trigger command (R192). -/
  | invalidCommand
  /-- 5 CONFIG_MISMATCH: geometry refused (R189). -/
  | configMismatch
  /-- 6 INVALID_STATE: a stream command in a state where it is not allowed. -/
  | invalidState
  /-- 7 OPEN_FAILED: DMA_OPEN while open (R186). -/
  | openFailed
  /-- 8 BAD_OPCODE: the word is no command (R101). -/
  | badOpcode
deriving DecidableEq, Repr

/-- The stream states of 44_dma_sequencer.md R180. -/
inductive StreamState where
  | idle
  | prepared
  | running
  | paused
deriving DecidableEq, Repr

/-- The three output lines (R30). -/
inductive Line where
  | clk
  | dat
  | mode
deriving DecidableEq, Repr

/-- The requests L3CC sends to the DMA channel (00_scope.md R12). -/
inductive DmaOp where
  | setSrc (a : Word)
  | setDst (a : Word)
  | setCtrl (w : Word)
  | start
  | stop
deriving DecidableEq, Repr

/-- The output primitives of 00_scope.md R12, as entries of the ordered event trace; `reset` is the model's own marker of
the point where the reset input was asserted (log 9). -/
inductive Output where
  | drive (line : Line) (level : Bool)
  | wait (cycles : Nat)
  | dma (op : DmaOp)
  | notify
  | reset
deriving DecidableEq, Repr

/-- Where a host access points: at a byte offset of the window, or at an address of the host's bus, which L3CC decodes
against L3CC_BASE (R22, R60; log 13). -/
inductive BusAddress where
  | offset (o : Byte)
  | absolute (a : Nat)
deriving DecidableEq, Repr

/-- One move of an agent outside the command unit (00_scope.md R15), or of the host. A list of them in `State.inputs` says
who moves next (log 2). -/
inductive Event where
  /-- The host writes these bytes, the first at the lowest address; the access size is their number (R61, R62). -/
  | write (addr : BusAddress) (bytes : List Byte)
  /-- The host reads `size` bytes (R61). -/
  | read (addr : BusAddress) (size : Nat)
  /-- The environment delivers one completion event, whatever the channel of R232 is doing: L3CC takes the event as an input
  (R225), and one may come when no channel is armed, as right after a reset (R253; log 20). -/
  | deliver
  /-- The DMA channel's step SignalRun (R232). -/
  | signalRun
  /-- The DMA channel's step SignalLate (R232). -/
  | signalLate
  /-- The completion sequencer takes one delivered completion event (R196, R197). -/
  | complete
  /-- LINK_FAULT will be 1 at this byte boundary of the next transfer (R126). -/
  | linkFault (boundary : Nat)
  /-- The reset input, paired or not with a power-on of the codec (R251, R252). -/
  | reset (codecPowerOn : Bool)
  /-- The reset input asserted while the command of this word executes, after `cut` of its outputs (R251; log 10). -/
  | resetDuring (word : Word) (cut : Nat) (codecPowerOn : Bool)
deriving DecidableEq, Repr

/-- The model faults the spec names. NO step ends in one: R234 has a model record the fault, sticky, and the run goes on
(95_test_vectors.md program P6), so it stands in `State.modelFault`. -/
inductive Fault where
  /-- DMA_START_UNLOADED (R234): recorded by the DMA channel on a `Start` before any descriptor, sent by DMA_TRIGGER START or
  RESUME. Unsafe for any claim about the channel's completions after it, which the spec does not give (log 6). -/
  | dmaStartUnloaded
deriving DecidableEq, Repr

/-- Why a step could refuse. No step of this model refuses: every word has its effect or its error code (R109). -/
inductive Refusal where
  /-- An instruction with no meaning in the model, by its mnemonic. Raised by no arm of `exec`: safe. -/
  | notModelled (mnemonic : String)
deriving DecidableEq, Repr

/-- The timing registers T_DS, T_DH, T_CH, T_MH, T_MS, in cycles of the block clock (R31, R120). -/
structure Timing where
  ds : Half
  dh : Half
  ch : Half
  mh : Half
  ms : Half
deriving DecidableEq, Repr

/-- The levels of the three lines (R30). -/
structure Lines where
  clk : Bool
  dat : Bool
  mode : Bool
deriving DecidableEq, Repr

/-- The period sequencer's record S (R27). -/
structure Stream where
  opened : Bool
  configured : Bool
  state : StreamState
  running : Bool
  base : Word
  size : Word
  period : Word
  frameBytes : Byte
  offset : Word
  notify : Bool
  descLoaded : Bool
  overrun : Bool
  stray : Bool
  elapsed : Word
deriving DecidableEq, Repr

/-- The DMA channel's state (R33). -/
structure Channel where
  src : Word
  dst : Word
  ctrl : Word
  loaded : Bool
  armed : Bool
  late : Bool
deriving DecidableEq, Repr

/-- The whole state: L3CC's own registers, the state outside the block that R33 and R34 have a model carry, the trace of
R12, and the model's own fields (`params`, `inputs`, `linkFaultAt`, `rdata`, `freeCount`). -/
structure State where
  /-- The implementation parameters of R8; no step changes them (log 3). -/
  params : Params
  /-- The moves still to come, the next one first (log 2). -/
  inputs : List Event
  /-- The byte boundary of the next transfer at which LINK_FAULT is 1, if there is one (R126; log 7). -/
  linkFaultAt : Option Nat
  /-- Completion events delivered and not yet taken by COMPLETE (R196, R251); COMPLETE may take them at any later step (R71,
  R227 (b); log 8). -/
  pending : Nat
  arg0 : Word
  arg1 : Word
  arg2 : Word
  result0 : Word
  result1 : Word
  result2 : Word
  /-- STATUS.ERR (R23). -/
  err : ErrCode
  timing : Timing
  lines : Lines
  /-- SHADOW, the entry of address a at place a (R25). -/
  shadow : List Half
  stream : Stream
  channel : Channel
  /-- The ghost set UNKNOWN (R34): strictly rising addresses. -/
  unknown : List Nat
  /-- The recorded model fault, sticky (R234; log 6). -/
  modelFault : Option Fault
  /-- Every output since the model's reset state, the oldest first (R12; log 9). -/
  trace : List Output
  /-- The bytes the last host read returned (R61; log 12). -/
  rdata : List Byte
  /-- The index of the next free value (log 5). -/
  freeCount : Nat
deriving DecidableEq, Repr

/-- R31: the reset value of each timing register. -/
def Timing.atReset : Timing := ⟨0xFFFF, 0xFFFF, 0xFFFF, 0xFFFF, 0xFFFF⟩

/-- R30: the lines idle high. -/
def Lines.atReset : Lines := ⟨true, true, true⟩

/-- R27: the stream record at reset. -/
def Stream.atReset : Stream where
  opened := false
  configured := false
  state := .idle
  running := false
  base := 0
  size := 0
  period := 0
  frameBytes := 0
  offset := 0
  notify := false
  descLoaded := false
  overrun := false
  stray := false
  elapsed := 0

/-- R33, R250: the channel at reset; its src, dst and ctrl are unspecified, so they are the three free values from index
`n` on (log 5). -/
def Channel.atReset (n : Nat) : Channel where
  src := Config.freeWord n
  dst := Config.freeWord (n + 1)
  ctrl := Config.freeWord (n + 2)
  loaded := false
  armed := false
  late := false

/-- The reset state of the machine with the parameters `p` (R250), at a reset that the platform pairs with a power-on of
the codec (R252; log 11), with nothing scheduled (R253). -/
def State.resetWith (p : Params) : State where
  params := p
  inputs := []
  linkFaultAt := none
  pending := 0
  arg0 := 0
  arg1 := 0
  arg2 := 0
  result0 := 0
  result1 := 0
  result2 := 0
  err := .ok
  timing := .atReset
  lines := .atReset
  shadow := p.regDefaults
  stream := .atReset
  channel := .atReset 0
  unknown := []
  modelFault := none
  trace := []
  rdata := []
  freeCount := 3

/-- The machine right after reset (R250). -/
def State.reset : State := State.resetWith Config.params

end Sys2Proof.Machine
end

