-- ==== Sys2Proof/Machine/Ops.lean ====
section
/-! DEFINITION. The named operations over the state that the meanings share: register writes, the output primitives of
00_scope.md R12, the DMA channel's answers to requests (60_exceptions.md R232), raising an error (R13, R103), taking the
completion interrupt and returning from it (44_dma_sequencer.md R197, R195), and reset (70_reset_and_hazards.md R251). -/

namespace Sys2Proof.Machine

/-! ## Register writes -/

/-- `reg[STATUS].ERR <- e`. -/
def State.setErr (e : ErrCode) (s : State) : State := { s with err := e }

/-- `reg[RESULT0] <- v`. -/
def State.setResult0 (v : Word) (s : State) : State := { s with result0 := v }

/-- `reg[RESULT0], reg[RESULT1], reg[RESULT2] <- v0, v1, v2`. -/
def State.setResults (v0 v1 v2 : Word) (s : State) : State :=
  { s with result0 := v0, result1 := v1, result2 := v2 }

/-- Writes the stream record S. -/
def State.setStream (t : Stream) (s : State) : State := { s with stream := t }

/-- Writes the channel's state. -/
def State.setChannel (c : Channel) (s : State) : State := { s with channel := c }

/-- Writes the ghost set UNKNOWN. -/
def State.setUnknown (u : List Nat) (s : State) : State := { s with unknown := u }

/-- Replaces the count of delivered completion events. -/
def State.setPending (n : Nat) (s : State) : State := { s with pending := n }

/-- The draw of R126 is used up by the transfer that sampled it. -/
def State.clearLinkFault (s : State) : State := { s with linkFaultAt := none }

/-! ## Errors -/

/-- `raise E` (R13, R103): the code goes to STATUS.ERR, and nothing else changes. -/
def State.raise (e : ErrCode) (s : State) : State := s.setErr e

/-- The end of a command without error (R106). -/
def State.succeed (s : State) : State := s.setErr .ok

/-! ## The shadow (R25) -/

/-- `SHADOW[a]`. An address that is no entry reads 0; no command reads one (R144; log 14). -/
def State.shadowAt (s : State) (a : Nat) : Half := s.shadow.getD a 0

/-- `SHADOW[a] <- v`. -/
def State.setShadow (a : Nat) (v : Half) (s : State) : State := { s with shadow := s.shadow.set a v }

/-! ## The ghost set UNKNOWN (R34), as a strictly rising list -/

/-- Adds an address. -/
def insertAddr (a : Nat) : List Nat → List Nat
  | [] => [a]
  | x :: xs => if a < x then a :: x :: xs else if a = x then x :: xs else x :: insertAddr a xs

/-- Removes an address. -/
def removeAddr (a : Nat) (xs : List Nat) : List Nat := xs.filter (fun x => x != a)

/-- The one form of a set of addresses: strictly rising, so that equal sets are equal lists. -/
abbrev risingAddrs (xs : List Nat) : Prop := xs.Pairwise (· < ·)

/-! ## The DMA channel (R232) -/

/-- What the channel makes of a request. A Start to an armed channel leaves it armed; a Start with nothing loaded is the
model fault of R234, which `State.emit` records, and arms it all the same, in the order the rule's pseudocode gives. -/
def Channel.request (lateDone : Bool) (c : Channel) : DmaOp → Channel
  | .setSrc a => { c with src := a, loaded := true }
  | .setDst a => { c with dst := a, loaded := true }
  | .setCtrl w => { c with ctrl := w, loaded := true }
  | .start => { c with armed := true }
  | .stop => { c with late := c.late || (c.armed && lateDone), armed := false }

/-- R234: the model fault a request causes, if it does. -/
def Channel.faultOf (c : Channel) : DmaOp → Option Fault
  | .start => if c.loaded then none else some .dmaStartUnloaded
  | .setSrc _ => none
  | .setDst _ => none
  | .setCtrl _ => none
  | .stop => none

/-! ## Output primitives (R12) -/

/-- `Drive(L, b)` on the levels of the lines (R30). -/
def Lines.drive (l : Lines) : Line → Bool → Lines
  | .clk, b => { l with clk := b }
  | .dat, b => { l with dat := b }
  | .mode, b => { l with mode := b }

/-- Emits one output: it is recorded in the trace, and it has its effect on the lines, or on the channel. A recorded model
fault is never replaced (R234: sticky). -/
def State.emit (s : State) (o : Output) : State :=
  match o with
  | .drive l b => { s with trace := s.trace ++ [o], lines := s.lines.drive l b }
  | .dma op =>
    { s with
      trace := s.trace ++ [o]
      channel := s.channel.request s.params.dmaLateDone op
      modelFault := s.modelFault.or (s.channel.faultOf op) }
  | .wait _ => { s with trace := s.trace ++ [o] }
  | .notify => { s with trace := s.trace ++ [o] }
  | .reset => { s with trace := s.trace ++ [o] }

/-- Emits outputs in order. -/
def State.emitAll (s : State) (os : List Output) : State := os.foldl State.emit s

/-! ## Descriptors (R182 to R184) -/

/-- DMA_CTRL_ENCODE (R8): the channel's control word for a transfer count (log 4). -/
def dmaCtrlEncode (p : Params) (count : Word) : Word :=
  match p.ctrlEncode with
  | .identity => count
  | .platform => Config.dmaCtrlEncode count

/-- R183: the source address of the next period, trunc_32(S.base + S.offset). -/
def Stream.source (t : Stream) : Word := t.base + t.offset

/-- R182: the halfwords of one period, S.period div 2. -/
def Stream.transferCount (t : Stream) : Word := t.period / 2

/-- R184: the three requests of a descriptor load, in their order. -/
def descriptorRequests (p : Params) (t : Stream) : List Output :=
  [.dma (.setSrc t.source), .dma (.setDst p.codecFifoAddr), .dma (.setCtrl (dmaCtrlEncode p t.transferCount))]

/-- LoadDescriptor() of R184. -/
def State.loadDescriptor (s : State) : State :=
  (s.emitAll (descriptorRequests s.params s.stream)).setStream { s.stream with descLoaded := true }

/-! ## Taking the completion interrupt, and returning from it -/

/-- R197: the offset after one effective completion. -/
def Stream.nextOffset (t : Stream) : Word :=
  if t.size ≤ t.offset + t.period then 0 else t.offset + t.period

/-- R197: the stream record after an effective completion. -/
def Stream.advance (t : Stream) : Stream :=
  { t with offset := t.nextOffset, elapsed := t.elapsed + 1, notify := true }

/-- COMPLETE (R197, R199, R228), the interrupt entry, on one completion event. It saves no state and changes no mode. -/
def State.takeCompletion (s : State) : State :=
  if !s.stream.opened then s.setStream { s.stream with stray := true }
  else if s.stream.notify then s.setStream { s.stream with overrun := true }
  else (s.setStream s.stream.advance).emit .notify

/-- The completion sequencer's turn (R196): one delivered event is taken by one COMPLETE; with none delivered the step is not
enabled and nothing happens. -/
def State.complete (s : State) : State :=
  if s.pending = 0 then s
  else (s.setPending (s.pending - 1)).takeCompletion

/-- R195, R229: the return from the notification. PERIOD_IRQ falls, and only if S.running = 1 is the next descriptor loaded
and the channel started. -/
def State.periodReturn (s : State) : State :=
  let lowered := s.setStream { s.stream with notify := false }
  if s.stream.running then lowered.loadDescriptor.emit (.dma .start) else lowered

/-! ## Delivering a completion event (R196), and the channel's own steps (R232) -/

/-- One more completion event waits for COMPLETE: events are never merged (R196). -/
def State.deliverCompletion (s : State) : State := s.setPending (s.pending + 1)

/-- SignalRun: enabled when armed; the channel delivers one completion event. Not enabled, nothing happens (log 2). -/
def State.signalRun (s : State) : State :=
  if s.channel.armed then (s.setChannel { s.channel with armed := false }).deliverCompletion else s

/-- SignalLate: enabled when a completion may still follow a Stop. -/
def State.signalLate (s : State) : State :=
  if s.channel.late then (s.setChannel { s.channel with late := false }).deliverCompletion else s

/-! ## Reset (R251, R252) -/

/-- R252: UNKNOWN after a reset is empty when the codec is powered on with it, and every address otherwise. -/
def unknownAtReset (p : Params) (codecPowerOn : Bool) : List Nat :=
  if codecPowerOn then [] else List.range p.regCount

/-- The reset step (R250 to R252). It keeps what is not L3CC's: the parameters, the moves still to come, the coming draw of the
link, the recorded fault and the trace, in which it leaves a marker (log 9, log 18). The channel's src, dst and ctrl are
free values, new at each reset (log 5). -/
def State.resetInput (codecPowerOn : Bool) (s : State) : State :=
  { State.resetWith s.params with
    inputs := s.inputs
    linkFaultAt := s.linkFaultAt
    channel := .atReset s.freeCount
    freeCount := s.freeCount + 3
    unknown := unknownAtReset s.params codecPowerOn
    modelFault := s.modelFault
    rdata := s.rdata
    trace := s.trace ++ [.reset] }

/-- R251: a reset inside a command. For L3CC's state it is a reset just before the command; the codec may have seen the first
`cut` outputs of the command, whose whole run ends in `ran`, and those outputs stand in the trace (log 10). -/
def State.abandon (cut : Nat) (codecPowerOn : Bool) (before ran : State) : State :=
  State.resetInput codecPowerOn
    { before.emitAll ((ran.trace.drop before.trace.length).take cut) with linkFaultAt := ran.linkFaultAt }

end Sys2Proof.Machine
end

