-- ==== Sys2Proof/Machine/CommandPort.lean ====
section
/-! DEFINITION. The command of no family: NOP (40_command_port.md R107). -/

namespace Sys2Proof.Machine

/-- NOP (R107): ERR <- OK, and nothing else. -/
def execNop (s : State) : Host.Outcome State Fault Refusal := .next s.succeed

end Sys2Proof.Machine
end

