-- ==== Sys2Proof/Machine/Operands.lean ====
section
/-! DEFINITION. The operands a command reads from registers (30_encoding.md R83), the bytes of an XMIT (41_serial_link.md
R129), the control frame (42_shadow_registers.md R141) and the trigger codes (44_dma_sequencer.md R191). -/

namespace Sys2Proof.Machine

/-- R83: PLL_CALC's target, ARG0. -/
def State.pllTarget (s : State) : Word := s.arg0

/-- R83: PLL_CALC's source, ARG1. -/
def State.pllSource (s : State) : Word := s.arg1

/-- R83: DMA_HW_PARAMS' buffer base address, ARG0. -/
def State.hwBase (s : State) : Word := s.arg0

/-- R83: DMA_HW_PARAMS' buffer_bytes, ARG1. -/
def State.hwBytes (s : State) : Word := s.arg1

/-- R83: DMA_HW_PARAMS' period_bytes, ARG2. -/
def State.hwPeriod (s : State) : Word := s.arg2

/-- R129: the bytes of an XMIT, B0 and the LEN bytes after it; the others are ignored. -/
def xmitBytes (len : BitVec 2) (b0 b1 b2 : Byte) : List Byte := [b0, b1, b2].take (1 + len.toNat)

/-- R144: an address is valid if it is below REG_COUNT. -/
def validAddr (p : Params) (a : Byte) : Bool := a.toNat < p.regCount

/-- R142: the two headphone-volume registers. -/
def isQuirk (p : Params) (a : Byte) : Bool := a.toNat == p.quirkHPL || a.toNat == p.quirkHPR

/-- R141, R142: byte0 of a control frame, trunc_8((a << 1) | v[8]), with bit 0 forced for a quirk register. -/
def frameByte0 (p : Params) (a : Byte) (v : Half) : Byte :=
  let plain : Byte := (a <<< 1) ||| (v.extractLsb' 8 1).setWidth 8
  if isQuirk p a then plain ||| 1 else plain

/-- R141: byte1 of a control frame, v[7:0]. -/
def frameByte1 (v : Half) : Byte := v.extractLsb' 0 8

/-- R141: the control frame, in the order its bytes are sent (R63). -/
def frame (p : Params) (a : Byte) (v : Half) : List Byte := [frameByte0 p a v, frameByte1 v]

/-- The trigger commands of R191. -/
inductive Trigger where
  | stop
  | start
  | pause
  | resume
deriving DecidableEq, Repr

/-- R191: STOP = 0, START = 1, PAUSE = 2, RESUME = 3, and no other code. -/
def triggerOf (tcmd : BitVec 4) : Option Trigger :=
  match tcmd.toNat with
  | 0 => some .stop
  | 1 => some .start
  | 2 => some .pause
  | 3 => some .resume
  | _ => none

/-- R192: the commands that start the channel, refused while a notification is pending. -/
def Trigger.starts : Trigger → Bool
  | .stop => false
  | .start => true
  | .pause => false
  | .resume => true

/-- R189: GeometryOK(base, bytes, period, fb), its eight conditions in order. -/
def geometryOk (base bytes period : Word) (fb : Byte) : Bool :=
  decide (0 < period.toNat) && decide (period.toNat % 2 = 0) && decide (0 < bytes.toNat) &&
    decide (bytes.toNat % period.toNat = 0) && decide (0 < fb.toNat) && decide (period.toNat % fb.toNat = 0) &&
    decide (base.toNat % 2 = 0) && decide (base.toNat + bytes.toNat ≤ 2 ^ 32)

end Sys2Proof.Machine
end

