-- ==== Sys2Proof/Machine/Dma.lean ====
section
/-! DEFINITION. The stream commands of the period sequencer (44_dma_sequencer.md R180 to R195). COMPLETE is in Ops.lean. -/

namespace Sys2Proof.Machine

/-- DMA_OPEN (R186). -/
def execDmaOpen (s : State) : Host.Outcome State Fault Refusal :=
  .next
    (if s.stream.opened then s.raise .openFailed
     else (s.setStream { s.stream with opened := true }).succeed)

/-- R187: when DMA_CLOSE is refused: not open (R181), Running, or a notification pending. -/
def Stream.refusesClose (t : Stream) : Bool := !t.opened || t.state == .running || t.notify

/-- DMA_CLOSE (R187): the geometry and the offset are kept, and no request is sent. -/
def execDmaClose (s : State) : Host.Outcome State Fault Refusal :=
  .next
    (if s.stream.refusesClose then s.raise .invalidState
     else (s.setStream { s.stream with opened := false, state := .idle, running := false }).succeed)

/-- R188: when DMA_HW_PARAMS is refused: not open (R181), Running or Paused. -/
def Stream.refusesHwParams (t : Stream) : Bool := !t.opened || t.state == .running || t.state == .paused

/-- R188: the stream record after DMA_HW_PARAMS. -/
def Stream.configure (base bytes period : Word) (fb : Byte) (t : Stream) : Stream :=
  { t with
    base := base
    size := bytes
    period := period
    frameBytes := fb
    offset := 0
    configured := true
    state := .idle }

/-- DMA_HW_PARAMS (R188): the state checks come before GeometryOK (R102). -/
def execDmaHwParams (fb : Byte) (s : State) : Host.Outcome State Fault Refusal :=
  .next
    (if s.stream.refusesHwParams then s.raise .invalidState
     else if geometryOk s.hwBase s.hwBytes s.hwPeriod fb then
       (s.setStream (s.stream.configure s.hwBase s.hwBytes s.hwPeriod fb)).succeed
     else s.raise .configMismatch)

/-- R190: when DMA_PREPARE is refused: not open (R181), Running, or no geometry set. -/
def Stream.refusesPrepare (t : Stream) : Bool := !t.opened || t.state == .running || !t.configured

/-- R190: the writes of DMA_PREPARE: the offset and the running flag are cleared, the first descriptor is loaded and not
started, and the state is Prepared. -/
def State.prepareStream (s : State) : State :=
  let loaded := (s.setStream { s.stream with offset := 0, running := false }).loadDescriptor
  loaded.setStream { loaded.stream with state := .prepared }

/-- DMA_PREPARE (R190). -/
def execDmaPrepare (s : State) : Host.Outcome State Fault Refusal :=
  .next (if s.stream.refusesPrepare then s.raise .invalidState else s.prepareStream.succeed)

/-- R192, R193: the running flag and the state after a trigger. -/
def Stream.trigger (t : Stream) : Trigger → Stream
  | .start => { t with running := true, state := .running }
  | .resume => { t with running := true, state := .running }
  | .stop => { t with running := false, state := .idle }
  | .pause => { t with running := false, state := .paused }

/-- R193: the request a trigger sends. -/
def Trigger.request : Trigger → DmaOp
  | .start => .start
  | .resume => .start
  | .stop => .stop
  | .pause => .stop

/-- R192: when a trigger is refused: not open (R181), or a start while a notification is pending. -/
def Stream.refusesTrigger (t : Stream) (c : Trigger) : Bool := !t.opened || (c.starts && t.notify)

/-- DMA_TRIGGER (R192): the TCMD check comes first (R102); then every trigger acts in every state, unconditionally (R185,
R193), a START with no descriptor loaded too (R234). -/
def execDmaTrigger (tcmd : BitVec 4) (s : State) : Host.Outcome State Fault Refusal :=
  .next
    (match triggerOf tcmd with
     | none => s.raise .invalidCommand
     | some c =>
       if s.stream.refusesTrigger c then s.raise .invalidState
       else ((s.setStream (s.stream.trigger c)).emit (.dma c.request)).succeed)

/-- R194, C5: the offset clamped at the end of the buffer. -/
def Stream.clampedOffset (t : Stream) : Word := if t.size ≤ t.offset then 0 else t.offset

/-- R194: the frame count. A configured stream has FRAME_BYTES > 0 (R29 (b)); log 14 says what an unreachable state gives. -/
def Stream.framePointer (t : Stream) : Word := t.clampedOffset / t.frameBytes.setWidth 32

/-- DMA_POINTER (R194). -/
def execDmaPointer (s : State) : Host.Outcome State Fault Refusal :=
  .next
    (if !s.stream.opened || !s.stream.configured then s.raise .invalidState
     else (s.setResult0 s.stream.framePointer).succeed)

/-- PERIOD_ACK (R195): the return from the notification. -/
def execPeriodAck (s : State) : Host.Outcome State Fault Refusal :=
  .next (if s.stream.notify then s.periodReturn.succeed else s.raise .invalidState)

end Sys2Proof.Machine
end

