-- ==== Sys2Proof/Machine/Flags.lean ====
section
/-! DEFINITION. The status word (10_state.md R23), its write-one-to-clear bits, and the flags PLL_CALC returns
(43_pll.md R164, R166, R168). L3CC has no condition codes (R35). -/

namespace Sys2Proof.Machine

/-- The numbers of the error codes (R220). -/
def ErrCode.code : ErrCode → BitVec 4
  | .ok => 0
  | .outOfRange => 1
  | .linkError => 2
  | .invalidFrequency => 3
  | .invalidCommand => 4
  | .configMismatch => 5
  | .invalidState => 6
  | .openFailed => 7
  | .badOpcode => 8

/-- The numbers of the stream states in STATUS.STATE (R23, R180). -/
def StreamState.code : StreamState → BitVec 2
  | .idle => 0
  | .prepared => 1
  | .running => 2
  | .paused => 3

/-- R28, R224: the PERIOD_IRQ output equals S.notify. -/
def State.periodIrq (s : State) : Bool := s.stream.notify

/-- STATUS as a read returns it (R23): from bit 31 down, 18 reserved bits, STRAY, OVERRUN, a reserved bit, DESC_LOADED,
NOTIFY, CONFIGURED, OPENED, RUNNING, STATE, ERR. -/
def State.statusWord (s : State) : Word :=
  0#18 ++ BitVec.ofBool s.stream.stray ++ BitVec.ofBool s.stream.overrun ++ 0#1 ++
    BitVec.ofBool s.stream.descLoaded ++ BitVec.ofBool s.periodIrq ++ BitVec.ofBool s.stream.configured ++
    BitVec.ofBool s.stream.opened ++ BitVec.ofBool s.stream.running ++ s.stream.state.code ++ s.err.code

/-- A host write to STATUS (R23): bit 12 clears OVERRUN and bit 13 clears STRAY; no other field is written. -/
def Stream.clearSticky (w : Word) (t : Stream) : Stream :=
  { t with overrun := t.overrun && !w.getLsbD 12, stray := t.stray && !w.getLsbD 13 }

/-- R164: NWARN, the soft range [6,12] of Ndiv left. -/
def pllNwarn (ndiv : Nat) : Bool := decide (ndiv < 6) || decide (12 < ndiv)

/-- R168: KSAT, the fraction rounded to 2^24, which 24 bits do not hold. -/
def pllKsat (kfull : Nat) : Bool := kfull == 2 ^ 24

/-- R166: RESULT0 of PLL_CALC, with [6] KSAT, [5] NWARN, [4] PRESCALE, [3:0] N = ndiv[3:0] (R169). -/
def pllResult0 (ksat nwarn prescale : Bool) (ndiv : Word) : Word :=
  0#25 ++ BitVec.ofBool ksat ++ BitVec.ofBool nwarn ++ BitVec.ofBool prescale ++ ndiv.extractLsb' 0 4

end Sys2Proof.Machine
end

