-- ==== Sys2Proof/Machine/Pll.lean ====
section
/-! DEFINITION. The PLL coefficient calculator (43_pll.md R160 to R173), in exact natural-number arithmetic (D23). -/

namespace Sys2Proof.Machine

/-- R9, R165: FIXED_SCALE = 2^24 * 10. -/
def fixedScale : Nat := 2 ^ 24 * 10

/-- R162: whether the source is halved, the effective source and Ndiv. -/
structure PllDivide where
  prescale : Bool
  sEff : Nat
  ndiv : Nat
deriving DecidableEq, Repr

/-- R162: the source is halved, once, when Ndiv is below 6. R163: `none` is INVALID_FREQUENCY, for a zero input or a halved
source of 0. -/
def pllDivide (target source : Nat) : Option PllDivide :=
  if target = 0 ∨ source = 0 then none
  else if target / source < 6 then
    if source / 2 = 0 then none else some ⟨true, source / 2, target / (source / 2)⟩
  else some ⟨false, source, target / source⟩

/-- R165: kpart before rounding. -/
def pllKpart (target sEff : Nat) : Nat := fixedScale * (target % sEff) / sEff

/-- R165: kfull, with the round-half-up on the last decimal digit. -/
def pllKfull (target sEff : Nat) : Nat :=
  let kpart := pllKpart target sEff
  (if 5 ≤ kpart % 10 then kpart + 5 else kpart) / 10

/-- R168: k, saturated at 2^24 - 1. -/
def pllK (kfull : Nat) : Nat := if kfull = 2 ^ 24 then 2 ^ 24 - 1 else kfull

/-- The writes of PLL_CALC on success (R166). -/
def State.pllWrite (target : Nat) (d : PllDivide) (s : State) : State :=
  let kfull := pllKfull target d.sEff
  (s.setResults (pllResult0 (pllKsat kfull) (pllNwarn d.ndiv) d.prescale (BitVec.ofNat 32 d.ndiv))
    (BitVec.ofNat 32 (pllK kfull)) (BitVec.ofNat 32 d.ndiv)).succeed

/-- PLL_CALC (R166). -/
def execPllCalc (s : State) : Host.Outcome State Fault Refusal :=
  .next
    (match pllDivide s.pllTarget.toNat s.pllSource.toNat with
     | none => s.raise .invalidFrequency
     | some d => s.pllWrite s.pllTarget.toNat d)

end Sys2Proof.Machine
end

