-- ==== Sys2Proof/Machine/SerialLink.lean ====
section
/-! DEFINITION. The serial transmitter (41_serial_link.md R120 to R132) and XMIT. -/

namespace Sys2Proof.Machine

/-- R121: the wait length W(x) = max(1, x) of a signed integer. -/
def waitLength (x : Int) : Nat := (max 1 x).toNat

/-- R121: the wait a timing register asks for. -/
def registerWait (x : Half) : Nat := waitLength x.toNat

/-- R125: the settle time W(T_MH + T_MS - T_DH), the sum taken on signed integers. -/
def settleWait (t : Timing) : Nat := waitLength ((t.mh.toNat : Int) + t.ms.toNat - t.dh.toNat)

/-- R123: SendBit(b). -/
def sendBit (t : Timing) (b : Bool) : List Output :=
  [.drive .clk false, .wait (registerWait t.dh),
   .drive .dat b, .wait (registerWait t.ds),
   .drive .clk true, .wait (registerWait t.ch)]

/-- R122: the bits of a byte in the order they are sent, v[7] first. -/
def bitsMsbFirst (v : Byte) : List Bool := [7, 6, 5, 4, 3, 2, 1, 0].map v.getLsbD

/-- R122, R124: one byte. -/
def sendByte (t : Timing) (v : Byte) : List Output := (bitsMsbFirst v).flatMap (sendBit t)

/-- R126: the accepted bytes of a transfer of `n`: LINK_FAULT is 1 at boundary `k` and bytes k..n-1 are not sent, or it is
never 1 and all are. -/
def acceptedBytes (n : Nat) : Option Nat → Nat
  | none => n
  | some k => min k n

/-- R124, R125: the end of a complete transfer, the MODE low pulse and the return to idle. -/
def endPulse (t : Timing) : List Output :=
  [.drive .mode false, .wait (settleWait t), .drive .mode true]

/-- R124, R127: the line events of a transfer of `vs` of which `a` bytes are accepted. -/
def transferEvents (t : Timing) (vs : List Byte) (a : Nat) : List Output :=
  [.drive .mode true, .wait (registerWait t.ms)] ++ (vs.take a).flatMap (sendByte t) ++
    (if a = vs.length then endPulse t else [])

/-- R124, R128: Transmit(v[0..n-1]), which returns the count of bytes sent and uses up the link's draw (log 7). -/
def State.transmit (s : State) (vs : List Byte) : Nat × State :=
  let a := acceptedBytes vs.length s.linkFaultAt
  (a, (s.emitAll (transferEvents s.timing vs a)).clearLinkFault)

/-- XMIT once decode has passed (R129): the bytes are sent, RESULT0 is the count, and a short transfer is no error. -/
def State.sendRaw (s : State) (vs : List Byte) : State :=
  let (sent, s') := s.transmit vs
  (s'.setResult0 (BitVec.ofNat 32 sent)).succeed

/-- XMIT (R129). LEN = 3 is no command: its word does not decode, and a term that carries it raises the same BAD_OPCODE
(R87, R101; log 17). -/
def execXmit (len : BitVec 2) (b0 b1 b2 : Byte) (s : State) : Host.Outcome State Fault Refusal :=
  .next (if len = 3 then s.raise .badOpcode else s.sendRaw (xmitBytes len b0 b1 b2))

end Sys2Proof.Machine
end

