-- ==== Sys2Proof/Machine/Shadow.lean ====
section
/-! DEFINITION. The register shadow: WRITE_REG and READ_REG (42_shadow_registers.md R140 to R152). -/

namespace Sys2Proof.Machine

/-- R145: what WRITE_REG does once the frame was sent in full: SHADOW[a] takes the value as written (R142), and a leaves
UNKNOWN (R34). -/
def State.commitWrite (a : Byte) (v : Half) (s : State) : State :=
  ((s.setShadow a.toNat v).setUnknown (removeAddr a.toNat s.unknown)).succeed

/-- R145, R152: what WRITE_REG does after a short transfer: LINK_ERROR, the shadow as it was, and a joins UNKNOWN (R34). -/
def State.failWrite (a : Byte) (s : State) : State :=
  (s.setUnknown (insertAddr a.toNat s.unknown)).raise .linkError

/-- WRITE_REG on a valid address (R145): send the frame, return the count of bytes in RESULT0 on both outcomes, commit only a
full frame. -/
def State.writeThrough (a : Byte) (v : Half) (s : State) : State :=
  let (sent, s') := s.transmit (frame s.params a v)
  let counted := s'.setResult0 (BitVec.ofNat 32 sent)
  if sent = 2 then counted.commitWrite a v else counted.failWrite a

/-- WRITE_REG (R145). -/
def execWriteReg (addr : Byte) (value : Half) (s : State) : Host.Outcome State Fault Refusal :=
  .next (if validAddr s.params addr then s.writeThrough addr value else s.raise .outOfRange)

/-- R147, R148: the value READ_REG returns; the reset register reads 0 whatever the shadow holds. -/
def State.shadowRead (s : State) (a : Byte) : Half :=
  if a.toNat = s.params.regReset then 0 else s.shadowAt a.toNat

/-- READ_REG (R147). -/
def execReadReg (addr : Byte) (s : State) : Host.Outcome State Fault Refusal :=
  .next
    (if validAddr s.params addr then (s.setResult0 ((s.shadowRead addr).setWidth 32)).succeed
     else s.raise .outOfRange)

end Sys2Proof.Machine
end

