-- ==== Sys2Proof/Syntax.lean ====
section
/-! DEFINITION. The commands of L3CC: one constructor for each row of spec/opcode_table.json (30_encoding.md R84), with the
fields of R82. -/

namespace Sys2Proof

/-- A decoded command. A field is the bits of the command word that R82 names, with nothing extended, scaled or shifted. -/
inductive Instr where
  /-- NOP (R107). -/
  | nop
  /-- WRITE_REG ADDR, VALUE (R145). -/
  | writeReg (addr : Byte) (value : Half)
  /-- READ_REG ADDR (R147). -/
  | readReg (addr : Byte)
  /-- XMIT with LEN and the bytes B0, B1, B2 (R129). Bytes beyond 1 + LEN are part of the word and are ignored. -/
  | xmit (len : BitVec 2) (b0 b1 b2 : Byte)
  /-- PLL_CALC (R166). -/
  | pllCalc
  /-- DMA_OPEN (R186). -/
  | dmaOpen
  /-- DMA_CLOSE (R187). -/
  | dmaClose
  /-- DMA_HW_PARAMS FB (R188). -/
  | dmaHwParams (fb : Byte)
  /-- DMA_PREPARE (R190). -/
  | dmaPrepare
  /-- DMA_TRIGGER TCMD (R192); every TCMD decodes (R87). -/
  | dmaTrigger (tcmd : BitVec 4)
  /-- DMA_POINTER (R194). -/
  | dmaPointer
  /-- PERIOD_ACK (R195). -/
  | periodAck
deriving DecidableEq, Repr

/-- The opcode field OP of a command's word (R84). -/
def Instr.opcode : Instr → BitVec 4
  | .nop => 0x0
  | .writeReg _ _ => 0x1
  | .readReg _ => 0x2
  | .xmit _ _ _ _ => 0x3
  | .pllCalc => 0x4
  | .dmaOpen => 0x5
  | .dmaClose => 0x6
  | .dmaHwParams _ => 0x7
  | .dmaPrepare => 0x8
  | .dmaTrigger _ => 0x9
  | .dmaPointer => 0xA
  | .periodAck => 0xB

end Sys2Proof
end

