-- ==== Sys2Proof/Machine/Dispatch.lean ====
section
/-! DEFINITION. The dispatch of R101: one arm for each command of 30_encoding.md R84. -/

namespace Sys2Proof.Machine

/-- The effect of a decoded command (R84, R100). -/
def exec (i : Instr) (s : State) : Host.Outcome State Fault Refusal :=
  match i with
  | .nop => Sys2Proof.Machine.execNop s
  | .writeReg addr value => Sys2Proof.Machine.execWriteReg addr value s
  | .readReg addr => Sys2Proof.Machine.execReadReg addr s
  | .xmit len b0 b1 b2 => Sys2Proof.Machine.execXmit len b0 b1 b2 s
  | .pllCalc => Sys2Proof.Machine.execPllCalc s
  | .dmaOpen => Sys2Proof.Machine.execDmaOpen s
  | .dmaClose => Sys2Proof.Machine.execDmaClose s
  | .dmaHwParams fb => Sys2Proof.Machine.execDmaHwParams fb s
  | .dmaPrepare => Sys2Proof.Machine.execDmaPrepare s
  | .dmaTrigger tcmd => Sys2Proof.Machine.execDmaTrigger tcmd s
  | .dmaPointer => Sys2Proof.Machine.execDmaPointer s
  | .periodAck => Sys2Proof.Machine.execPeriodAck s

end Sys2Proof.Machine
end

