-- ==== Sys2Proof/WellFormed.lean ====
section
/-! DEFINITION. Which commands have an encoding (30_encoding.md R82, R87). -/

namespace Sys2Proof

/-- R82, R87: LEN = 3 is reserved, so an XMIT sends one, two or three bytes. No other field of any command has a reserved
value: an address out of range and an undefined TCMD decode, and raise their errors when they execute (R87, R144). -/
def Instr.wellFormed : Instr → Bool
  | .nop => true
  | .writeReg _ _ => true
  | .readReg _ => true
  | .xmit len _ _ _ => len != 3
  | .pllCalc => true
  | .dmaOpen => true
  | .dmaClose => true
  | .dmaHwParams _ => true
  | .dmaPrepare => true
  | .dmaTrigger _ => true
  | .dmaPointer => true
  | .periodAck => true

end Sys2Proof
end

