-- ==== Sys2Proof/Decode.lean ====
section
/-! DEFINITION. From bytes to a command word to a command, and back (20_memory.md R62; 30_encoding.md R80 to R91;
40_command_port.md R101). Decoding is total: a word that is no command is rejected by name. -/

namespace Sys2Proof

/-! ## Byte order -/

/-- R62: byte lane k of a 32-bit access carries bits [8k+7:8k], so the byte at the lowest address is the least significant. -/
def bytesOfWord (w : Word) : List Byte :=
  [w.extractLsb' 0 8, w.extractLsb' 8 8, w.extractLsb' 16 8, w.extractLsb' 24 8]

/-- R61, R62: the word of an access of exactly four bytes, given in address order; another size is no word. -/
def wordOfBytes : List Byte → Option Word
  | [k0, k1, k2, k3] => some (k3 ++ k2 ++ k1 ++ k0)
  | _ => none

/-! ## Decoding -/

/-- Why a word is no command. Executing such a word raises BAD_OPCODE (R101). -/
inductive Reject where
  /-- OP is one of 0xC to 0xF (R86). -/
  | reservedOpcode
  /-- A bit that the format of OP reserves is 1 (R81, R87). -/
  | reservedBits
  /-- An XMIT with LEN = 3 (R87). -/
  | reservedLength
  /-- The bytes are not one 32-bit word (R80). -/
  | notOneWord
deriving DecidableEq, Repr

/-- R87: a command whose reserved bits are `bits` and whose fields are those of `i`. -/
def checkReserved {n : Nat} (bits : BitVec n) (i : Instr) : Except Reject Instr :=
  if bits = 0 then .ok i else .error .reservedBits

/-- The decoder of R101: OP = word[31:28] selects the format (R80), the reserved bits of the format are checked (R81), then
LEN = 3 is refused, and the fields are those of R82. -/
def decodeWord (w : Word) : Except Reject Instr :=
  match (w.extractLsb' 28 4).toNat with
  | 0x0 => checkReserved (w.extractLsb' 0 28) .nop
  | 0x1 => checkReserved (w.extractLsb' 24 4) (.writeReg (w.extractLsb' 16 8) (w.extractLsb' 0 16))
  | 0x2 => checkReserved (w.extractLsb' 24 4 ++ w.extractLsb' 0 16) (.readReg (w.extractLsb' 16 8))
  | 0x3 =>
    if w.extractLsb' 26 2 = 0 then
      if w.extractLsb' 24 2 = 3 then .error .reservedLength
      else .ok (.xmit (w.extractLsb' 24 2) (w.extractLsb' 16 8) (w.extractLsb' 8 8) (w.extractLsb' 0 8))
    else .error .reservedBits
  | 0x4 => checkReserved (w.extractLsb' 0 28) .pllCalc
  | 0x5 => checkReserved (w.extractLsb' 0 28) .dmaOpen
  | 0x6 => checkReserved (w.extractLsb' 0 28) .dmaClose
  | 0x7 => checkReserved (w.extractLsb' 8 20) (.dmaHwParams (w.extractLsb' 0 8))
  | 0x8 => checkReserved (w.extractLsb' 0 28) .dmaPrepare
  | 0x9 => checkReserved (w.extractLsb' 4 24) (.dmaTrigger (w.extractLsb' 0 4))
  | 0xA => checkReserved (w.extractLsb' 0 28) .dmaPointer
  | 0xB => checkReserved (w.extractLsb' 0 28) .periodAck
  | _ => .error .reservedOpcode

/-- Decoding on any bytes: R80 gives a command exactly one 32-bit word. -/
def decode (bytes : List Byte) : Except Reject Instr :=
  match wordOfBytes bytes with
  | some w => decodeWord w
  | none => .error .notOneWord

/-- The command the decoder reads from an instruction whose bits are `w`, the host's question on the opcode table: the
word's bytes as the bus lays them out (R62), given to `decode`. Bits from `nbits` up are zero. -/
def decodeTableWord (nbits w : Nat) : Option Instr :=
  if w % 2 ^ nbits < 2 ^ 32 then
    (decode (bytesOfWord (BitVec.ofNat 32 (w % 2 ^ nbits)))).toOption
  else none

/-! ## Encoding -/

/-- The word of a command, from the formats of R81 and the words of R89. -/
def encode : Instr → Word
  | .nop => 0x0#4 ++ 0#28
  | .writeReg addr value => 0x1#4 ++ 0#4 ++ addr ++ value
  | .readReg addr => 0x2#4 ++ 0#4 ++ addr ++ 0#16
  | .xmit len b0 b1 b2 => 0x3#4 ++ 0#2 ++ len ++ b0 ++ b1 ++ b2
  | .pllCalc => 0x4#4 ++ 0#28
  | .dmaOpen => 0x5#4 ++ 0#28
  | .dmaClose => 0x6#4 ++ 0#28
  | .dmaHwParams fb => 0x7#4 ++ 0#20 ++ fb
  | .dmaPrepare => 0x8#4 ++ 0#28
  | .dmaTrigger tcmd => 0x9#4 ++ 0#24 ++ tcmd
  | .dmaPointer => 0xA#4 ++ 0#28
  | .periodAck => 0xB#4 ++ 0#28

/-- The bytes of a command as one aligned 32-bit store writes them (R62, R80). -/
def encodeBytes (i : Instr) : List Byte := bytesOfWord (encode i)

/-! ## The opcode table as data -/

/-- One row of spec/opcode_table.json: a word is of this row when the bits under the mask are those of the pattern. -/
structure OpcodeRow where
  mnemonic : String
  pattern : Word
  mask : Word
deriving DecidableEq, Repr

/-- The mnemonic of a command, as the table spells it (R84). -/
def Instr.mnemonic : Instr → String
  | .nop => "NOP"
  | .writeReg _ _ => "WRITE_REG"
  | .readReg _ => "READ_REG"
  | .xmit _ _ _ _ => "XMIT"
  | .pllCalc => "PLL_CALC"
  | .dmaOpen => "DMA_OPEN"
  | .dmaClose => "DMA_CLOSE"
  | .dmaHwParams _ => "DMA_HW_PARAMS"
  | .dmaPrepare => "DMA_PREPARE"
  | .dmaTrigger _ => "DMA_TRIGGER"
  | .dmaPointer => "DMA_POINTER"
  | .periodAck => "PERIOD_ACK"

/-- The rows of spec/opcode_table.json, in its order, each with the match and mask the file gives. The decoder above does not
read them: they are a second account of the encoding, to hold it against. -/
def opcodeRows : List OpcodeRow :=
  [⟨"NOP", 0x00000000, 0xFFFFFFFF⟩, ⟨"WRITE_REG", 0x10000000, 0xFF000000⟩, ⟨"READ_REG", 0x20000000, 0xFF00FFFF⟩,
   ⟨"XMIT", 0x30000000, 0xFC000000⟩, ⟨"PLL_CALC", 0x40000000, 0xFFFFFFFF⟩, ⟨"DMA_OPEN", 0x50000000, 0xFFFFFFFF⟩,
   ⟨"DMA_CLOSE", 0x60000000, 0xFFFFFFFF⟩, ⟨"DMA_HW_PARAMS", 0x70000000, 0xFFFFFF00⟩,
   ⟨"DMA_PREPARE", 0x80000000, 0xFFFFFFFF⟩, ⟨"DMA_TRIGGER", 0x90000000, 0xFFFFFFF0⟩,
   ⟨"DMA_POINTER", 0xA0000000, 0xFFFFFFFF⟩, ⟨"PERIOD_ACK", 0xB0000000, 0xFFFFFFFF⟩]

/-- A word is of a row. -/
def OpcodeRow.holds (r : OpcodeRow) (w : Word) : Bool := w &&& r.mask == r.pattern

end Sys2Proof
end

