-- ==== Sys2Proof/Machine/Mmio.lean ====
section
/-! DEFINITION. The MMIO window (10_state.md R22, R23; 20_memory.md R60 to R70), fetching a command word from the host's
next move, and the moves of the other agents (00_scope.md R15). -/

namespace Sys2Proof.Machine

/-! ## Decoding an access -/

/-- R22: the byte offset in the 256-byte window at L3CC_BASE, if the access points into it (log 13). -/
def BusAddress.inWindow (base : Nat) : BusAddress → Option Byte
  | .offset o => some o
  | .absolute a => if base ≤ a ∧ a < base + 256 then some (BitVec.ofNat 8 (a - base)) else none

/-- R61: a decoded access is naturally aligned and four bytes wide. -/
def decodedAccess (o : Byte) (size : Nat) : Bool := o.toNat % 4 == 0 && size == 4

/-! ## Register reads (R22) -/

/-- LINES: [0] CLK, [1] DAT, [2] MODE. -/
def Lines.word (l : Lines) : Word :=
  0#29 ++ BitVec.ofBool l.mode ++ BitVec.ofBool l.dat ++ BitVec.ofBool l.clk

/-- The value a decoded read of an offset returns (R22). CMD is write only and reads 0; reserved offsets read 0. -/
def State.readRegister (s : State) (o : Byte) : Word :=
  match o.toNat with
  | 0x04 => s.arg0
  | 0x08 => s.arg1
  | 0x0C => s.arg2
  | 0x10 => s.result0
  | 0x14 => s.result1
  | 0x18 => s.result2
  | 0x1C => s.statusWord
  | 0x20 => s.timing.ds.setWidth 32
  | 0x24 => s.timing.dh.setWidth 32
  | 0x28 => s.timing.ch.setWidth 32
  | 0x2C => s.timing.mh.setWidth 32
  | 0x30 => s.timing.ms.setWidth 32
  | 0x34 => s.lines.word
  | 0x38 => s.stream.offset
  | 0x3C => s.stream.base
  | 0x40 => s.stream.size
  | 0x44 => s.stream.period
  | 0x48 => s.stream.frameBytes.setWidth 32
  | 0x4C => s.stream.elapsed
  | 0x50 => (BitVec.ofNat 8 s.params.regCount).setWidth 32
  | _ => 0

/-- The bytes a read of `size` bytes at an offset returns, the lowest address first (R61, R62): an access that is not decoded
returns 0. -/
def State.readBytes (s : State) (o : Byte) (size : Nat) : List Byte :=
  if decodedAccess o size then bytesOfWord (s.readRegister o) else List.replicate size 0

/-- A host read (R66: no side effect). The returned bytes are kept in `rdata` (log 12); an access outside the window is not
L3CC's to answer. -/
def State.hostRead (s : State) (addr : BusAddress) (size : Nat) : State :=
  match addr.inWindow s.params.l3ccBase with
  | some o => { s with rdata := s.readBytes o size }
  | none => s

/-! ## Register writes (R22, R23, R66) -/

/-- A decoded write to an offset other than CMD. Every offset not named here ignores it. -/
def State.writeRegister (s : State) (o : Byte) (w : Word) : State :=
  match o.toNat with
  | 0x04 => { s with arg0 := w }
  | 0x08 => { s with arg1 := w }
  | 0x0C => { s with arg2 := w }
  | 0x1C => s.setStream (s.stream.clearSticky w)
  | 0x20 => { s with timing := { s.timing with ds := w.setWidth 16 } }
  | 0x24 => { s with timing := { s.timing with dh := w.setWidth 16 } }
  | 0x28 => { s with timing := { s.timing with ch := w.setWidth 16 } }
  | 0x2C => { s with timing := { s.timing with mh := w.setWidth 16 } }
  | 0x30 => { s with timing := { s.timing with ms := w.setWidth 16 } }
  | _ => s

/-- A decoded host write: the offset and the word, or nothing where the access is ignored (R61) or not in the window. -/
def decodedWrite (p : Params) (addr : BusAddress) (bytes : List Byte) : Option (Byte × Word) :=
  match addr.inWindow p.l3ccBase, wordOfBytes bytes with
  | some o, some w => if decodedAccess o bytes.length then some (o, w) else none
  | _, _ => none

/-- A host write that issues no command. -/
def State.hostWrite (s : State) (addr : BusAddress) (bytes : List Byte) : State :=
  match decodedWrite s.params addr bytes with
  | some (o, w) => s.writeRegister o w
  | none => s

/-! ## The command a move issues (R100) -/

/-- The command word a host write issues: a decoded write to CMD, offset 0x00 (R80, R100). -/
def commandOfWrite (p : Params) (addr : BusAddress) (bytes : List Byte) : Option Word :=
  match decodedWrite p addr bytes with
  | some (o, w) => if o = 0 then some w else none
  | none => none

/-- The command word that the next move has the command unit run, if it does. -/
def fetchWord (p : Params) : Event → Option Word
  | .write addr bytes => commandOfWrite p addr bytes
  | .resetDuring w _ _ => some w
  | .read _ _ => none
  | .deliver => none
  | .signalRun => none
  | .signalLate => none
  | .complete => none
  | .linkFault _ => none
  | .reset _ => none

/-- The host's write of a command word to CMD (R89: each mnemonic stands for WR CMD). -/
def commandWrite (w : Word) : Event := .write (.offset 0) (bytesOfWord w)

/-! ## The moves that run no command -/

/-- What a move that runs no command does. A `resetDuring` always runs one, so it does nothing here. -/
def State.move (s : State) : Event → State
  | .write addr bytes => s.hostWrite addr bytes
  | .read addr size => s.hostRead addr size
  | .deliver => s.deliverCompletion
  | .signalRun => s.signalRun
  | .signalLate => s.signalLate
  | .complete => s.complete
  | .linkFault k => { s with linkFaultAt := some k }
  | .reset codecPowerOn => s.resetInput codecPowerOn
  | .resetDuring _ _ _ => s

/-- After the last scheduled move nothing happens of L3CC's own accord (R253) but that a delivered completion is taken. -/
def State.idle (s : State) : State := s.complete

end Sys2Proof.Machine
end

