-- ==== Sys2Proof/Machine/Execute.lean ====
section
/-! DEFINITION. Executing a command word (40_command_port.md R101, R109), and what a move makes of the command it ran. -/

namespace Sys2Proof.Machine

/-- Execute(w) (R101, R109): a word that decodes runs its command, and any other raises BAD_OPCODE (R86, R87). -/
def executeWord (w : Word) (s : State) : Host.Outcome State Fault Refusal :=
  match decode (bytesOfWord w) with
  | .ok i => exec i s
  | .error _ => .next (s.raise .badOpcode)

/-- What a move makes of the command it ran: a `resetDuring` abandons it (R251), any other move keeps its outcome. -/
def settleCommand (e : Event) (before : State) (ran : Host.Outcome State Fault Refusal) :
    Host.Outcome State Fault Refusal :=
  match e, ran with
  | .resetDuring _ cut codecPowerOn, .next s' => .next (State.abandon cut codecPowerOn before s')
  | _, o => o

end Sys2Proof.Machine
end

