-- ==== Sys2Proof/Machine/Step.lean ====
section
/-! DEFINITION. One step of the machine: the next scheduled move of an agent (00_scope.md R15), and the state in
which the host places a command. -/

namespace Sys2Proof.Machine

/-- One step: the next move of `inputs` (log 2). A command and a COMPLETE are each one step, in whatever order the moves stand
(R71, R104; log 8); with no move left, a delivered completion is taken, and else nothing happens (R253). -/
def step (s : State) : Host.Outcome State Fault Refusal :=
  match s.inputs with
  | [] => .next s.idle
  | e :: rest =>
    match fetchWord s.params e with
    | none => .next (State.move { s with inputs := rest } e)
    | some w => settleCommand e { s with inputs := rest } (executeWord w { s with inputs := rest })

/-- The state in which the very next step runs the instruction of these bits: the host's write of that word to CMD stands
first in the schedule. Nothing else changes (log 1). -/
def State.withFetchWord (s : State) (nbits w : Nat) : State :=
  { s with inputs := commandWrite (BitVec.ofNat 32 (w % 2 ^ nbits)) :: s.inputs }

end Sys2Proof.Machine
end

