-- ==== Sys2Proof/Machine/Observe.lean ====
section
/-! DEFINITION. What an observer reads from the event trace (00_scope.md R12, R15 (f)): the bits a codec samples, the time a
transfer takes, the requests the DMA channel got, the notifications. No step of the machine uses these. -/

namespace Sys2Proof.Machine

/-- The DAT level at each rising CLK edge, from the levels `clk` and `dat` on (41_serial_link.md R131: the codec samples data on
the rising clock edge, R63).

DESIGN CHOICE (log 19): a reset returns the lines to their reset levels (R30, R251) by no Drive event, and where CLK was low the
spec does not say whether the codec samples a bit there. This observation goes on from CLK = DAT = 1 and counts no bit. -/
def sampledBits (clk dat : Bool) : List Output → List Bool
  | [] => []
  | .drive .clk b :: os => if !clk && b then dat :: sampledBits b dat os else sampledBits b dat os
  | .drive .dat b :: os => sampledBits clk b os
  | .drive .mode _ :: os => sampledBits clk dat os
  | .wait _ :: os => sampledBits clk dat os
  | .dma _ :: os => sampledBits clk dat os
  | .notify :: os => sampledBits clk dat os
  | .reset :: os => sampledBits Lines.atReset.clk Lines.atReset.dat os

/-- The length of a trace in block-clock cycles: Drive events take no time of their own (R130). -/
def duration : List Output → Nat
  | [] => 0
  | .wait n :: os => n + duration os
  | .drive _ _ :: os => duration os
  | .dma _ :: os => duration os
  | .notify :: os => duration os
  | .reset :: os => duration os

/-- The Drive events with their times, as 95_test_vectors.md section 2.3 lists them (time:event). -/
def timedDrives (now : Nat) : List Output → List (Nat × Line × Bool)
  | [] => []
  | .wait n :: os => timedDrives (now + n) os
  | .drive l b :: os => (now, l, b) :: timedDrives now os
  | .dma _ :: os => timedDrives now os
  | .notify :: os => timedDrives now os
  | .reset :: os => timedDrives now os

/-- The last request L3CC sent to the channel since the last reset, after `last` (R206). -/
def lastRequest (last : Option DmaOp) : List Output → Option DmaOp
  | [] => last
  | .dma op :: os => lastRequest (some op) os
  | .reset :: os => lastRequest none os
  | .wait _ :: os => lastRequest last os
  | .drive _ _ :: os => lastRequest last os
  | .notify :: os => lastRequest last os

/-- Every wait of a trace lasts at least one cycle (R12, R121). -/
def waitsPositive : List Output → Bool
  | [] => true
  | .wait n :: os => decide (1 ≤ n) && waitsPositive os
  | .drive _ _ :: os => waitsPositive os
  | .dma _ :: os => waitsPositive os
  | .notify :: os => waitsPositive os
  | .reset :: os => waitsPositive os

/-- The DMA requests of a trace, in order. -/
def dmaRequests : List Output → List DmaOp
  | [] => []
  | .dma op :: os => op :: dmaRequests os
  | .wait _ :: os => dmaRequests os
  | .drive _ _ :: os => dmaRequests os
  | .notify :: os => dmaRequests os
  | .reset :: os => dmaRequests os

/-- The notifications raised since the last reset, after `n` (R197, R235). -/
def notifications (n : Nat) : List Output → Nat
  | [] => n
  | .notify :: os => notifications (n + 1) os
  | .reset :: os => notifications 0 os
  | .dma _ :: os => notifications n os
  | .wait _ :: os => notifications n os
  | .drive _ _ :: os => notifications n os

/-- What a step added to the trace. -/
def State.newOutputs (before after : State) : List Output := after.trace.drop before.trace.length

end Sys2Proof.Machine
end

