-- ==== Sys2Proof/Safety.lean ====
section
/-! DEFINITION. What a good state and a safe run are, in the terms the claims use. -/

namespace Sys2Proof.Machine

/-- R234: a run in which no model fault was recorded. A run with a recorded fault supports no claim about the channel. -/
abbrev State.faultFree (s : State) : Prop := s.modelFault = none

/-- The geometry facts of R29 (b), as R189 checks them. -/
abbrev Stream.geometryValid (t : Stream) : Prop :=
  0 < t.period.toNat ∧ t.period.toNat % 2 = 0 ∧ 0 < t.size.toNat ∧ t.size.toNat % t.period.toNat = 0 ∧
    0 < t.frameBytes.toNat ∧ t.period.toNat % t.frameBytes.toNat = 0 ∧ t.base.toNat % 2 = 0 ∧
    t.base.toNat + t.size.toNat ≤ 2 ^ 32

/-- R29 (c), first sentence. -/
abbrev Stream.offsetValid (t : Stream) : Prop :=
  t.offset.toNat < t.size.toNat ∧ t.offset.toNat % t.period.toNat = 0

/-- The invariants (a) to (d) of R29. -/
abbrev Stream.ruleInv (t : Stream) : Prop :=
  (t.running = true ↔ t.state = .running) ∧
    (t.configured = true → t.geometryValid) ∧
    (t.configured = true → t.offsetValid) ∧
    (t.configured = false → t.offset = 0) ∧
    (t.notify = true → t.opened = true)

/-- The geometry is still at its reset value (R27). -/
abbrev Stream.geometryUnset (t : Stream) : Prop := t.base = 0 ∧ t.size = 0 ∧ t.period = 0 ∧ t.frameBytes = 0

/-- The invariants of R29 with what they need to be kept by every step: the geometry is written only together with
S.configured (R188), so an unconfigured stream still has the reset geometry. -/
abbrev Stream.inv (t : Stream) : Prop :=
  t.ruleInv ∧ (t.configured = false → t.geometryUnset)

/-- R132: the levels of CLK and MODE between commands. -/
abbrev Lines.idle (l : Lines) : Prop := l.clk = true ∧ l.mode = true

/-- R25: SHADOW has one entry for each address. -/
abbrev State.shadowSized (s : State) : Prop := s.shadow.length = s.params.regCount

/-- R34: UNKNOWN is a set of shadow addresses, in its one form. -/
abbrev State.unknownValid (s : State) : Prop := risingAddrs s.unknown ∧ ∀ a ∈ s.unknown, a < s.params.regCount

/-- R234: "ch.loaded = 0, which is S.desc_loaded = 0". -/
abbrev State.loadedAgrees (s : State) : Prop := s.channel.loaded = s.stream.descLoaded

/-- R206: while the stream is not Running, the last request sent to the channel was not `Start`. -/
abbrev State.stoppedWhenNotRunning (s : State) : Prop :=
  s.stream.state ≠ .running → lastRequest none s.trace ≠ some .start

/-- R235, R197: ELAPSED counts the notifications raised since reset, modulo 2^32. -/
abbrev State.elapsedCounts (s : State) : Prop := s.stream.elapsed = BitVec.ofNat 32 (notifications 0 s.trace)

/-- The command that the next step runs, if it runs one: the next move is a host write to CMD whose word decodes, or a command
that a reset will cut. -/
def State.nextCommand (s : State) : Option Instr :=
  match s.inputs with
  | [] => none
  | e :: _ =>
    match fetchWord s.params e with
    | some w => (decodeWord w).toOption
    | none => none

/-- The next move asserts reset (R251). -/
def State.nextIsReset (s : State) : Bool :=
  match s.inputs with
  | .reset _ :: _ => true
  | .resetDuring _ _ _ :: _ => true
  | _ => false

/-- R221: the errors a well-formed command can raise, in the order it checks them. -/
def raisableErrors : Instr → List ErrCode
  | .nop => []
  | .writeReg _ _ => [.outOfRange, .linkError]
  | .readReg _ => [.outOfRange]
  | .xmit _ _ _ _ => []
  | .pllCalc => [.invalidFrequency]
  | .dmaOpen => [.openFailed]
  | .dmaClose => [.invalidState]
  | .dmaHwParams _ => [.invalidState, .configMismatch]
  | .dmaPrepare => [.invalidState]
  | .dmaTrigger _ => [.invalidCommand, .invalidState]
  | .dmaPointer => [.invalidState]
  | .periodAck => [.invalidState]

/-- A good state: the invariants above together, on parameters that meet R8. -/
abbrev State.good (s : State) : Prop :=
  s.params.wf ∧ s.stream.inv ∧ s.lines.idle ∧ s.shadowSized ∧ s.unknownValid ∧ s.loadedAgrees ∧ s.stoppedWhenNotRunning

/-- R203: one effective completion and the PERIOD_ACK after it, by the machine's own operations. -/
def State.completionRound (s : State) : State := s.takeCompletion.periodReturn

/-- R203: `n` such rounds. -/
def State.completionRounds (s : State) : Nat → State
  | 0 => s
  | n + 1 => (s.completionRounds n).completionRound

end Sys2Proof.Machine
end

