-- ==== Sys2Proof/Certificates/Slice0/Obligations.lean ====
section
/-! DEFINITION. The statements for the provers. Each docstring names the rule of spec/ it formalises. A host access, a signal
or a reset is the head of `inputs`; `exec` is one command; a result statement gives the whole next state, so that it is a
frame and a completion statement at once. -/

open Sys2Proof Sys2Proof.Machine

/-! ## Encoding -/

/-- R80 to R82: no field of any command is lost between its word and its decoding. -/
def Obligations.EncodedCommandsDecodeBack : Prop :=
  ∀ i : Instr, i.wellFormed = true → decode (encodeBytes i) = .ok i

/-- R80 to R82, R87: a word that decodes is the encoding of the command it decodes to, bit for bit, and that command is
well-formed. -/
def Obligations.DecodedWordsEncodeBack : Prop :=
  ∀ (w : Word) (i : Instr), decodeWord w = .ok i → encode i = w ∧ i.wellFormed = true

/-- R84 and opcode_table.json: a word decodes to a command of a row exactly when it has the row's pattern under the row's mask,
but for XMIT's LEN = 3 (R87). -/
def Obligations.DecoderAgreesWithOpcodeTable : Prop :=
  ∀ (w : Word) (r : OpcodeRow), r ∈ opcodeRows →
    ((∃ i, decodeWord w = .ok i ∧ i.mnemonic = r.mnemonic) ↔
      (r.holds w = true ∧ (r.mnemonic = "XMIT" → w.extractLsb' 24 2 ≠ 3)))

/-- R91: the statements of the rule's list have its words, and those words decode to them; DMA_TRIGGER 7 decodes and then raises
INVALID_COMMAND; the three illegal words raise BAD_OPCODE. -/
def Obligations.ExampleWordsDecode : Prop :=
  (∀ i w, (i, w) ∈ ([(.writeReg 52 0x0039, 0x10340039), (.writeReg 10 0x01FF, 0x100A01FF), (.readReg 52, 0x20340000),
      (.xmit 1 0x69 0x39 0, 0x31693900), (.dmaHwParams 4, 0x70000004), (.dmaTrigger 1, 0x90000001),
      (.dmaTrigger 7, 0x90000007)] : List (Instr × Word)) → encode i = w ∧ decodeWord w = .ok i) ∧
    (∀ s : State, executeWord 0x90000007 s = .next { s with err := .invalidCommand }) ∧
    ∀ s : State, ∀ w ∈ ([0x33000000, 0x20340001, 0xC0000000] : List Word),
      executeWord w s = .next { s with err := .badOpcode }

/-- R86: OP 0xC to 0xF raises BAD_OPCODE and changes nothing else. -/
def Obligations.ReservedOpcodesRaiseBadOpcode : Prop :=
  ∀ (w : Word) (s : State), 0xC ≤ w.toNat / 2 ^ 28 → executeWord w s = .next { s with err := .badOpcode }

/-- R87 with the formats of R81: a reserved bit set, or an XMIT with LEN = 3, raises BAD_OPCODE and changes nothing else
(R103); an undefined TCMD decodes, and raises INVALID_COMMAND when it executes. -/
def Obligations.ReservedEncodingsRaiseBadOpcode : Prop :=
  ∀ (w : Word) (s : State),
    ((w.toNat / 2 ^ 28 ∈ [0x0, 0x4, 0x5, 0x6, 0x8, 0xA, 0xB] ∧ w.toNat % 2 ^ 28 ≠ 0) ∨
        (w.toNat / 2 ^ 28 = 0x1 ∧ w.toNat / 2 ^ 24 % 2 ^ 4 ≠ 0) ∨
        (w.toNat / 2 ^ 28 = 0x2 ∧ (w.toNat / 2 ^ 24 % 2 ^ 4 ≠ 0 ∨ w.toNat % 2 ^ 16 ≠ 0)) ∨
        (w.toNat / 2 ^ 28 = 0x3 ∧ (w.toNat / 2 ^ 26 % 2 ^ 2 ≠ 0 ∨ w.toNat / 2 ^ 24 % 2 ^ 2 = 3)) ∨
        (w.toNat / 2 ^ 28 = 0x7 ∧ w.toNat / 2 ^ 8 % 2 ^ 20 ≠ 0) ∨
        (w.toNat / 2 ^ 28 = 0x9 ∧ w.toNat / 2 ^ 4 % 2 ^ 24 ≠ 0) →
      executeWord w s = .next { s with err := .badOpcode }) ∧
    (w.toNat / 2 ^ 4 = 0x9000000 →
      decodeWord w = .ok (.dmaTrigger (w.extractLsb' 0 4)) ∧
        (4 ≤ w.toNat % 2 ^ 4 → executeWord w s = .next { s with err := .invalidCommand }))

/-! ## The step and the MMIO window -/

/-- R100, R101: when the next move is a host write of a word to CMD, the step is the meaning of the command the word decodes to,
or BAD_OPCODE, at the state in which the move is used up. -/
def Obligations.StepRunsTheWrittenCommand : Prop :=
  ∀ (s : State) (addr : BusAddress) (bytes : List Byte) (rest : List Event) (w : Word),
    s.inputs = .write addr bytes :: rest → addr.inWindow s.params.l3ccBase = some 0 → wordOfBytes bytes = some w →
    (∀ i, decodeWord w = .ok i → step s = exec i { s with inputs := rest }) ∧
    (∀ r, decodeWord w = .error r → step s = .next { s with inputs := rest, err := .badOpcode })

/-- R71, R104, R227 (b): a command runs whole whatever completions wait for COMPLETE, and takes none of them: it counts and
notifies nothing, the next move of the schedule may be a COMPLETE or another command, and with another number of waiting
completions it does the same. That the schedule may hold these moves in any order is log 8. -/
def Obligations.CommandsLeaveCompletionsPending : Prop :=
  ∀ (s : State) (w : Word) (rest : List Event), s.inputs = commandWrite w :: rest →
    ∃ t, step s = .next t ∧ t.inputs = rest ∧ t.pending = s.pending ∧ t.stream.elapsed = s.stream.elapsed ∧
      .notify ∉ s.newOutputs t ∧ ∀ n, step { s with pending := n } = .next { t with pending := n }

/-- R109: no word, no access and no event makes the block stuck or faulted. Two clauses are the model's choice: R109 excepts the
model fault of R234, and that the step which records it answers a next state too is log 6; that a move which is not
enabled answers one, and changes nothing, is log 2. -/
def Obligations.EveryStepAnswersNextState : Prop :=
  ∀ s : State, ∃ t, step s = .next t

/-- R61: an access into the window that is not an aligned 4-byte access is ignored: a write changes nothing and issues no command,
a read returns 0 and changes nothing. That the 0 stands in `rdata`, as many zero bytes as the read asked for, is the
model's choice (log 12). -/
def Obligations.UndecodedAccessesAreIgnored : Prop :=
  ∀ (s : State) (addr : BusAddress) (o : Byte) (rest : List Event), addr.inWindow s.params.l3ccBase = some o →
    (∀ bytes : List Byte, o.toNat % 4 ≠ 0 ∨ bytes.length ≠ 4 → s.inputs = .write addr bytes :: rest →
      step s = .next { s with inputs := rest }) ∧
    (∀ size : Nat, o.toNat % 4 ≠ 0 ∨ size ≠ 4 → s.inputs = .read addr size :: rest →
      step s = .next { s with inputs := rest, rdata := List.replicate size 0 })

/-- R22, R62, R66: a decoded read returns the four byte lanes of the word at its offset, lane k being bits [8k+7:8k], and has no
side effect; that word is, at each offset of the window, the one the register map names (the fields of STATUS are in
StatusWordFields). That the lanes stand in `rdata` is the model's choice (log 12). -/
def Obligations.DecodedReadsReturnLanes : Prop :=
  ∀ (s : State) (addr : BusAddress) (o : Byte) (rest : List Event), addr.inWindow s.params.l3ccBase = some o →
    o.toNat % 4 = 0 → s.inputs = .read addr 4 :: rest →
    ∃ (lanes : List Byte) (v : Word), step s = .next { s with inputs := rest, rdata := lanes } ∧ lanes.length = 4 ∧
      (∀ k, k < 4 → lanes[k]? = some (v.extractLsb' (8 * k) 8)) ∧ v = s.readRegister o ∧
      (∀ p x, (p, x) ∈ ([(0x04, s.arg0), (0x08, s.arg1), (0x0C, s.arg2), (0x10, s.result0), (0x14, s.result1),
          (0x18, s.result2), (0x38, s.stream.offset), (0x3C, s.stream.base), (0x40, s.stream.size),
          (0x44, s.stream.period), (0x4C, s.stream.elapsed)] : List (Byte × Word)) → o = p → v = x) ∧
      (∀ p n, (p, n) ∈ ([(0x20, s.timing.ds.toNat), (0x24, s.timing.dh.toNat), (0x28, s.timing.ch.toNat),
          (0x2C, s.timing.mh.toNat), (0x30, s.timing.ms.toNat), (0x48, s.stream.frameBytes.toNat),
          (0x50, s.params.regCount % 2 ^ 8)] : List (Byte × Nat)) → o = p → v.toNat = n) ∧
      (o = 0x34 → v.getLsbD 0 = s.lines.clk ∧ v.getLsbD 1 = s.lines.dat ∧ v.getLsbD 2 = s.lines.mode ∧ v.toNat < 8) ∧
      (o = 0 ∨ 0x54 ≤ o.toNat → v = 0)

/-- R22, R23, R66: a decoded write of `w` to an offset other than CMD writes the field the register map names at that offset and
nothing else: ARGn takes `w`, a timing register its low half, STATUS loses the sticky bits written as 1, and every other
register ignores it. Each offset then reads as the written field says, and every other offset as before. -/
def Obligations.HostWriteThenReadBack : Prop :=
  ∀ (s : State) (addr : BusAddress) (o : Byte) (w : Word) (rest : List Event),
    addr.inWindow s.params.l3ccBase = some o → o.toNat % 4 = 0 → o ≠ 0 →
    s.inputs = .write addr (bytesOfWord w) :: rest →
    ∃ t, step s = .next t ∧
      t.readRegister o =
        (if o.toNat ∈ [0x04, 0x08, 0x0C] then w
         else if o.toNat ∈ [0x20, 0x24, 0x28, 0x2C, 0x30] then w &&& 0xFFFF
         else if o.toNat = 0x1C then s.readRegister o &&& ~~~(w &&& 0x3000)
         else s.readRegister o) ∧
      (∀ o', o' ≠ o → t.readRegister o' = s.readRegister o') ∧
      t = { s with
            inputs := rest
            arg0 := if o = 0x04 then w else s.arg0
            arg1 := if o = 0x08 then w else s.arg1
            arg2 := if o = 0x0C then w else s.arg2
            timing :=
              { ds := if o = 0x20 then w.extractLsb' 0 16 else s.timing.ds
                dh := if o = 0x24 then w.extractLsb' 0 16 else s.timing.dh
                ch := if o = 0x28 then w.extractLsb' 0 16 else s.timing.ch
                mh := if o = 0x2C then w.extractLsb' 0 16 else s.timing.mh
                ms := if o = 0x30 then w.extractLsb' 0 16 else s.timing.ms }
            stream := { s.stream with
              overrun := if o = 0x1C ∧ w.getLsbD 12 = true then false else s.stream.overrun
              stray := if o = 0x1C ∧ w.getLsbD 13 = true then false else s.stream.stray } }

/-- R23, R28, R180, R220: every field of STATUS, with the numbers of the states and of the error codes. -/
def Obligations.StatusWordFields : Prop :=
  ∀ s : State,
    (∀ e n, (e, n) ∈ ([(.ok, 0), (.outOfRange, 1), (.linkError, 2), (.invalidFrequency, 3), (.invalidCommand, 4),
        (.configMismatch, 5), (.invalidState, 6), (.openFailed, 7), (.badOpcode, 8)] : List (ErrCode × BitVec 4)) →
        s.err = e → (s.readRegister 0x1C).extractLsb' 0 4 = n) ∧
      (∀ q n, (q, n) ∈ ([(.idle, 0), (.prepared, 1), (.running, 2), (.paused, 3)] : List (StreamState × BitVec 2)) →
        s.stream.state = q → (s.readRegister 0x1C).extractLsb' 4 2 = n) ∧
      (s.readRegister 0x1C).getLsbD 6 = s.stream.running ∧ (s.readRegister 0x1C).getLsbD 7 = s.stream.opened ∧
      (s.readRegister 0x1C).getLsbD 8 = s.stream.configured ∧ (s.readRegister 0x1C).getLsbD 9 = s.periodIrq ∧
      (s.readRegister 0x1C).getLsbD 10 = s.stream.descLoaded ∧ (s.readRegister 0x1C).getLsbD 11 = false ∧
      (s.readRegister 0x1C).getLsbD 12 = s.stream.overrun ∧ (s.readRegister 0x1C).getLsbD 13 = s.stream.stray ∧
      (s.readRegister 0x1C).extractLsb' 14 18 = 0

/-! ## Reset -/

/-- R250: the reset table, for every choice of the parameters; the channel's src, dst and ctrl, which the rule leaves
unspecified, are not constrained. -/
def Obligations.ResetStateIsTheRuleTable : Prop :=
  ∀ p : Params,
    ((State.resetWith p).arg0 = 0 ∧ (State.resetWith p).arg1 = 0 ∧ (State.resetWith p).arg2 = 0 ∧
      (State.resetWith p).result0 = 0 ∧ (State.resetWith p).result1 = 0 ∧ (State.resetWith p).result2 = 0) ∧
    (State.resetWith p).readRegister 0x1C = 0 ∧
    (State.resetWith p).timing = ⟨0xFFFF, 0xFFFF, 0xFFFF, 0xFFFF, 0xFFFF⟩ ∧
    (State.resetWith p).readRegister 0x34 = 7 ∧
    (State.resetWith p).shadow = p.regDefaults ∧
    ((State.resetWith p).stream.opened = false ∧ (State.resetWith p).stream.configured = false ∧
      (State.resetWith p).stream.running = false ∧ (State.resetWith p).stream.notify = false ∧
      (State.resetWith p).stream.descLoaded = false ∧ (State.resetWith p).stream.state = .idle) ∧
    ((State.resetWith p).stream.base = 0 ∧ (State.resetWith p).stream.size = 0 ∧
      (State.resetWith p).stream.period = 0 ∧ (State.resetWith p).stream.frameBytes = 0 ∧
      (State.resetWith p).stream.offset = 0 ∧ (State.resetWith p).stream.elapsed = 0) ∧
    (State.resetWith p).periodIrq = false ∧
    ((State.resetWith p).channel.loaded = false ∧ (State.resetWith p).channel.armed = false ∧
      (State.resetWith p).channel.late = false) ∧
    (State.resetWith p).stream.ruleInv ∧
    State.reset = State.resetWith Config.params

/-- R29, R132, R206, R250: the reset state is a good state, whatever the parameters. That the parameters the model gives
`State.reset` meet R8 is a check of the model's own choice (log 3). -/
def Obligations.ResetStateIsGood : Prop :=
  Config.params.wf ∧ ∀ p : Params, p.wf → (State.resetWith p).good ∧ (State.resetWith p).elapsedCounts

/-- R251, R252: the reset input puts L3CC and the channel model into the reset state, discards completions not yet taken, and
sets UNKNOWN by whether the codec was powered on. What is not L3CC's is kept (log 18, the model's choice). -/
def Obligations.ResetInputRestoresResetState : Prop :=
  ∀ (s : State) (codecPowerOn : Bool) (rest : List Event), s.inputs = .reset codecPowerOn :: rest →
    ∃ t, step s = .next t ∧
      (t.channel.loaded = false ∧ t.channel.armed = false ∧ t.channel.late = false) ∧
      t = { State.resetWith s.params with
            inputs := rest
            linkFaultAt := s.linkFaultAt
            channel := t.channel
            freeCount := t.freeCount
            unknown := if codecPowerOn then [] else List.range s.params.regCount
            modelFault := s.modelFault
            rdata := s.rdata
            trace := s.trace ++ [.reset] }

/-- R251: a reset inside a command is, for L3CC's state, a reset just before the command; only what the environment saw differs:
the trace holds a first part of the command's outputs, the link's draw may be used up and a fault recorded (log 10, the
model's choice). -/
def Obligations.ResetInsideCommandIsResetBefore : Prop :=
  ∀ (s : State) (w : Word) (cut : Nat) (codecPowerOn : Bool) (rest : List Event),
    s.inputs = .resetDuring w cut codecPowerOn :: rest →
    ∃ t u ran outs,
      step s = .next t ∧
      step { s with inputs := .reset codecPowerOn :: rest } = .next u ∧
      t = { u with trace := t.trace, linkFaultAt := t.linkFaultAt, modelFault := t.modelFault } ∧
      executeWord w { s with inputs := rest } = .next ran ∧
      ran.trace = s.trace ++ outs ∧ t.trace = s.trace ++ outs.take cut ++ [.reset]

/-! ## NOP and what every command shares -/

/-- R107: NOP sets ERR to OK, with all other state unchanged; its word is 0x00000000, and a word with OP = 0 and any of bits
[27:0] set raises BAD_OPCODE. -/
def Obligations.NopOnlySetsErrOk : Prop :=
  ∀ s : State,
    exec .nop s = .next { s with err := .ok } ∧
    executeWord 0x00000000 s = .next { s with err := .ok } ∧
    ∀ w : Word, w.toNat / 2 ^ 28 = 0 → w.toNat % 2 ^ 28 ≠ 0 → executeWord w s = .next { s with err := .badOpcode }

/-- R103: an error other than LINK_ERROR, raised by a command or by a word that is none, leaves every piece of state unchanged
except STATUS.ERR, and so emits nothing. -/
def Obligations.ErrorsChangeOnlyErr : Prop :=
  (∀ (i : Instr) (s t : State), exec i s = .next t → t.err ≠ .ok → t.err ≠ .linkError → t = { s with err := t.err }) ∧
    ∀ (w : Word) (s t : State), executeWord w s = .next t → t.err ≠ .ok → t.err ≠ .linkError → t = { s with err := t.err }

/-- R221: the errors each command can raise. -/
def Obligations.CommandsRaiseOnlyTheirErrors : Prop :=
  ∀ (i : Instr) (s t : State), i.wellFormed = true → exec i s = .next t → t.err = .ok ∨ t.err ∈ raisableErrors i

/-- R24, R25, R31, R106, R132: outside reset, each of ARG0 to ARG2 and the five timing registers changes only by a host write to
its own offset, RESULTn only by the commands that name them, SHADOW only by WRITE_REG, and the lines only in a transfer. -/
def Obligations.RegistersChangeOnlyByTheirWriters : Prop :=
  ∀ s t : State, step s = .next t → s.nextIsReset = false →
    (t.shadow = s.shadow ∨ ∃ a v, s.nextCommand = some (.writeReg a v)) ∧
    (t.result0 = s.result0 ∨ s.nextCommand = some .pllCalc ∨ s.nextCommand = some .dmaPointer ∨
      (∃ a, s.nextCommand = some (.readReg a)) ∨ (∃ a v, s.nextCommand = some (.writeReg a v)) ∨
      ∃ len b0 b1 b2, s.nextCommand = some (.xmit len b0 b1 b2)) ∧
    ((t.result1 = s.result1 ∧ t.result2 = s.result2) ∨ s.nextCommand = some .pllCalc) ∧
    (∀ o before after, (o, before, after) ∈ ([(0x04, s.arg0, t.arg0), (0x08, s.arg1, t.arg1), (0x0C, s.arg2, t.arg2)] :
        List (Byte × Word × Word)) →
      after = before ∨ ∃ addr bytes rest w, s.inputs = .write addr bytes :: rest ∧
        decodedWrite s.params addr bytes = some (o, w)) ∧
    (∀ o before after, (o, before, after) ∈ ([(0x20, s.timing.ds, t.timing.ds), (0x24, s.timing.dh, t.timing.dh),
        (0x28, s.timing.ch, t.timing.ch), (0x2C, s.timing.mh, t.timing.mh), (0x30, s.timing.ms, t.timing.ms)] :
        List (Byte × Half × Half)) →
      after = before ∨ ∃ addr bytes rest w, s.inputs = .write addr bytes :: rest ∧
        decodedWrite s.params addr bytes = some (o, w)) ∧
    (t.lines = s.lines ∨ (∃ a v, s.nextCommand = some (.writeReg a v)) ∨
      ∃ len b0 b1 b2, s.nextCommand = some (.xmit len b0 b1 b2))

/-! ## The serial transmitter -/

/-- R129, R124, R126: XMIT sends the first 1 + LEN bytes as far as the link accepts them, counts them in RESULT0, and raises no
error; the lines end as R132 says. -/
def Obligations.XmitSendsAndCounts : Prop :=
  ∀ (len : BitVec 2) (b0 b1 b2 : Byte) (a : Nat) (s : State), len ≠ 3 →
    (s.linkFaultAt = none → a = 1 + len.toNat) → (∀ k, s.linkFaultAt = some k → a = min k (1 + len.toNat)) →
    let vs := [b0, b1, b2].take (1 + len.toNat)
    exec (.xmit len b0 b1 b2) s =
      .next { s with
        result0 := BitVec.ofNat 32 a
        err := .ok
        linkFaultAt := none
        trace := s.trace ++ transferEvents s.timing vs a
        lines :=
          { clk := if a = 0 then s.lines.clk else true
            dat := if a = 0 then s.lines.dat else (vs.getD (a - 1) 0).getLsbD 0
            mode := true } }

/-- R130, with W of R121 and the settle time of R125: the length of a transfer in block-clock cycles. -/
def Obligations.TransferDuration : Prop :=
  ∀ (t : Timing) (vs : List Byte) (a : Nat), a ≤ vs.length →
    duration (transferEvents t vs a) =
      max 1 t.ms.toNat + 8 * a * (max 1 t.dh.toNat + max 1 t.ds.toNat + max 1 t.ch.toNat) +
        (if a = vs.length then (max 1 ((t.mh.toNat : Int) + t.ms.toNat - t.dh.toNat)).toNat else 0)

/-- R131, with R122 to R125: from any levels, a transfer has 8a rising CLK edges, and DAT at the k-th is v[k div 8][7 - (k mod 8)].
Its Drive events and their times, from the start of the transfer: MODE rises at 0; bit cell k starts with CLK falling,
W(T_DH) later DAT takes the bit, W(T_DS) later CLK rises, and the cell ends W(T_CH) after that; a complete transfer ends
with the MODE low pulse. So DAT is driven W(T_DS) before each rising edge and not again within W(T_CH) + W(T_DH) after it. -/
def Obligations.TransferSamplesBytesMsbFirst : Prop :=
  ∀ (t : Timing) (vs : List Byte) (a : Nat) (clk dat : Bool), a ≤ vs.length →
    let hold := max 1 t.dh.toNat
    let setup := max 1 t.ds.toNat
    let high := max 1 t.ch.toNat
    let cell : Nat → Nat := fun k => max 1 t.ms.toNat + k * (hold + setup + high)
    let bit : Nat → Bool := fun k => (vs.getD (k / 8) 0).getLsbD (7 - k % 8)
    let events := timedDrives 0 (transferEvents t vs a)
    (sampledBits clk dat (transferEvents t vs a)).length = 8 * a ∧
      (∀ k, k < 8 * a → (sampledBits clk dat (transferEvents t vs a))[k]? = some (bit k)) ∧
      events =
        [(0, .mode, true)] ++
          (List.range (8 * a)).flatMap (fun k =>
            [(cell k, .clk, false), (cell k + hold, .dat, bit k), (cell k + hold + setup, .clk, true)]) ++
          (if a = vs.length then
            [(cell (8 * a), .mode, false),
             (cell (8 * a) + (max 1 ((t.mh.toNat : Int) + t.ms.toNat - t.dh.toNat)).toNat, .mode, true)]
           else []) ∧
      ∀ rise, (rise, .clk, true) ∈ events →
        (∃ b, (rise - setup, .dat, b) ∈ events) ∧
          ∀ u b, (u, .dat, b) ∈ events → u ≤ rise - setup ∨ rise + high + hold ≤ u

/-- R125: a complete transfer ends with one MODE low pulse of W(T_MH + T_MS - T_DH) cycles, and the pulse lasts one cycle when
T_MH + T_MS < T_DH + 1. -/
def Obligations.SettlePulseEndsCompleteTransfer : Prop :=
  ∀ (t : Timing) (vs : List Byte),
    ∃ n, (∃ before, transferEvents t vs vs.length = before ++ [.drive .mode false, .wait n, .drive .mode true] ∧
        .drive .mode false ∉ before) ∧
      n = (max 1 ((t.mh.toNat : Int) + t.ms.toNat - t.dh.toNat)).toNat ∧
      (t.mh.toNat + t.ms.toNat < t.dh.toNat + 1 → n = 1)

/-- R127: a transfer of which the link accepts only the first k bytes sends them whole and then stops, with no MODE low pulse and no
partial byte: the codec sees 8k rising CLK edges. CLK is left high, or unchanged if k = 0, MODE high, and DAT at the last
bit sent, or unchanged if k = 0. -/
def Obligations.ShortTransferLeavesNoPulse : Prop :=
  ∀ (vs : List Byte) (k : Nat) (s : State), s.linkFaultAt = some k → k < vs.length →
    ∃ t outs, s.transmit vs = (k, t) ∧ t.trace = s.trace ++ outs ∧ .drive .mode false ∉ outs ∧
      sampledBits s.lines.clk s.lines.dat outs =
        (vs.take k).flatMap (fun v => [7, 6, 5, 4, 3, 2, 1, 0].map v.getLsbD) ∧
      (sampledBits s.lines.clk s.lines.dat outs).length = 8 * k ∧
      t.lines =
        { clk := if k = 0 then s.lines.clk else true
          dat := (sampledBits s.lines.clk s.lines.dat outs).getLastD s.lines.dat
          mode := true }

/-- R12, R121: every Wait that is ever emitted lasts at least one cycle. -/
def Obligations.EmittedWaitsArePositive : Prop :=
  ∀ s t : State, waitsPositive s.trace = true → step s = .next t → waitsPositive t.trace = true

/-- R132: CLK and MODE are high at the end of every step, since they were before it. -/
def Obligations.LinesIdleKept : Prop :=
  ∀ s t : State, s.lines.idle → step s = .next t → t.lines.idle

/-! ## The register shadow -/

/-- R145, R141, R142, R34: WRITE_REG with the whole frame accepted. byte0 is the address shifted left with v[8], or with 1 for
a quirk register, in bit 0; byte1 is v[7:0]; the shadow takes v as written. -/
def Obligations.WriteRegCommitsFullFrame : Prop :=
  ∀ (a : Byte) (v : Half) (s : State), s.params.wf → a.toNat < s.params.regCount →
    (∀ k, s.linkFaultAt = some k → 2 ≤ k) →
    ∃ b0 b1 : Byte,
      b0.toNat = 2 * a.toNat +
        (if a.toNat = s.params.quirkHPL ∨ a.toNat = s.params.quirkHPR then 1 else v.toNat / 2 ^ 8 % 2) ∧
      b1.toNat = v.toNat % 2 ^ 8 ∧
      exec (.writeReg a v) s =
        .next { s with
          result0 := 2
          err := .ok
          shadow := s.shadow.set a.toNat v
          unknown := s.unknown.filter (fun x => x != a.toNat)
          linkFaultAt := none
          trace := s.trace ++ transferEvents s.timing [b0, b1] 2
          lines := { clk := true, dat := b1.getLsbD 0, mode := true } }

/-- R152: with fewer than two bytes accepted, WRITE_REG ends in LINK_ERROR and SHADOW is unchanged at every address. R145, R34:
RESULT0 is the count, the address joins UNKNOWN, and the error comes after the line events of the short transfer, which
leave the lines as R127 says. That the link's draw is used up is the model's choice (log 7). -/
def Obligations.ShortLinkLeavesShadow : Prop :=
  ∀ (a : Byte) (v : Half) (k : Nat) (s : State), s.params.wf → a.toNat < s.params.regCount →
    s.linkFaultAt = some k → k < 2 →
    ∃ (b0 b1 : Byte) (t : State),
      b0.toNat = 2 * a.toNat +
        (if a.toNat = s.params.quirkHPL ∨ a.toNat = s.params.quirkHPR then 1 else v.toNat / 2 ^ 8 % 2) ∧
      b1.toNat = v.toNat % 2 ^ 8 ∧
      exec (.writeReg a v) s = .next t ∧ (∀ x, x ∈ t.unknown ↔ x = a.toNat ∨ x ∈ s.unknown) ∧
      t = { s with
            err := .linkError
            result0 := BitVec.ofNat 32 k
            unknown := t.unknown
            linkFaultAt := none
            trace := s.trace ++ transferEvents s.timing [b0, b1] k
            lines :=
              { clk := if k = 0 then s.lines.clk else true
                dat := if k = 0 then s.lines.dat else b0.getLsbD 0
                mode := true } }

/-- R144: READ_REG and WRITE_REG raise OUT_OF_RANGE for an address that is not below REG_COUNT, with nothing sent (R103), and
for no other. -/
def Obligations.OutOfRangeAddressesRefused : Prop :=
  ∀ (a : Byte) (v : Half) (s t u : State), exec (.writeReg a v) s = .next t → exec (.readReg a) s = .next u →
    (s.params.regCount ≤ a.toNat → t = { s with err := .outOfRange } ∧ u = { s with err := .outOfRange }) ∧
    (a.toNat < s.params.regCount → t.err ≠ .outOfRange ∧ u.err ≠ .outOfRange)

/-- R147, R148: READ_REG returns the shadow's value, and 0 for the reset register; no line event, no other change. -/
def Obligations.ReadRegReturnsShadow : Prop :=
  ∀ (a : Byte) (s : State), s.shadowSized → a.toNat < s.params.regCount →
    ∃ v : Half, s.shadow[a.toNat]? = some v ∧
      exec (.readReg a) s =
        .next { s with
          result0 := if a.toNat = s.params.regReset then 0 else BitVec.ofNat 32 v.toNat
          err := .ok }

/-- R150: after a WRITE_REG a, v that ended in OK, a READ_REG a in any state with the shadow so left returns v, and 0 for the
reset register. -/
def Obligations.ReadAfterWrite : Prop :=
  ∀ (a : Byte) (v : Half) (s t u : State), s.shadowSized → exec (.writeReg a v) s = .next t → t.err = .ok →
    u.shadow = t.shadow → u.params = t.params →
    ∃ r, exec (.readReg a) u = .next r ∧ r.err = .ok ∧
      r.result0 = if a.toNat = s.params.regReset then 0 else BitVec.ofNat 32 v.toNat

/-- R143: a complete frame puts on DAT, at the rising CLK edges, a[6] to a[0], then 1 for a quirk register and v[8] for any
other, then v[7] to v[0]; bits v[15:9] are never sent. -/
def Obligations.CodecReceivesSixteenBits : Prop :=
  ∀ (a : Byte) (v : Half) (s : State), s.params.wf → a.toNat < s.params.regCount →
    (∀ k, s.linkFaultAt = some k → 2 ≤ k) →
    ∃ t outs, exec (.writeReg a v) s = .next t ∧ t.trace = s.trace ++ outs ∧
      sampledBits s.lines.clk s.lines.dat outs =
        [6, 5, 4, 3, 2, 1, 0].map a.getLsbD ++
          [decide (a.toNat = s.params.quirkHPL ∨ a.toNat = s.params.quirkHPR) || v.getLsbD 8] ++
          [7, 6, 5, 4, 3, 2, 1, 0].map v.getLsbD

/-- R25, R83: only READ_REG reads SHADOW: any other command does the same with another shadow, but for the shadow. -/
def Obligations.ShadowReadOnlyByReadReg : Prop :=
  ∀ (i : Instr) (h : List Half) (s t : State), (∀ a, i ≠ .readReg a) → exec i s = .next t →
    ∃ h', exec i { s with shadow := h } = .next { t with shadow := h' }

/-! ## The PLL calculator -/

/-- R166 with R162, R164, R165, R168, R169: PLL_CALC reads ARG0 and ARG1 only, and writes RESULT0 to RESULT2 and ERR only (R170).
R163: a zero target, a zero source, and a halved source of 0 (source = 1 and target < 6) raise INVALID_FREQUENCY. -/
def Obligations.PllCalcResult : Prop :=
  ∀ s : State,
    let t := s.arg0.toNat
    let q := s.arg1.toNat
    let pre := t / q < 6
    let e := if pre then q / 2 else q
    let n := t / e
    let kpart := 167772160 * (t % e) / e
    let kfull := (if 5 ≤ kpart % 10 then kpart + 5 else kpart) / 10
    (t ≠ 0 → q ≠ 0 → ¬(q = 1 ∧ t < 6) →
      exec .pllCalc s =
        .next { s with
          result0 := BitVec.ofNat 32
            ((if kfull = 2 ^ 24 then 64 else 0) + (if n < 6 ∨ 12 < n then 32 else 0) + (if pre then 16 else 0) + n % 16)
          result1 := BitVec.ofNat 32 (if kfull = 2 ^ 24 then 2 ^ 24 - 1 else kfull)
          result2 := BitVec.ofNat 32 n
          err := .ok }) ∧
    (t = 0 ∨ q = 0 ∨ (q = 1 ∧ t < 6) → exec .pllCalc s = .next { s with err := .invalidFrequency })

/-- R167: the two-step rounding of R165 is one round-half-up of the exact quotient nmod * 2^24 / s_eff. -/
def Obligations.PllRoundsHalfUp : Prop :=
  ∀ target sEff : Nat, 0 < sEff →
    (pllKfull target sEff : ℤ) = ⌊((target % sEff : ℕ) : ℚ) * 2 ^ 24 / (sEff : ℚ) + 1 / 2⌋

/-- R168: when kfull reaches 2^24, that it takes s_eff at least 2^25, that every such s_eff reaches it at nmod = s_eff - 1, and how
far the saturated ratio then is below the exact one. -/
def Obligations.PllSaturation : Prop :=
  ∀ target sEff : Nat, 0 < sEff →
    (pllKfull target sEff = 2 ^ 24 ↔ 1 - 1 / 2 ^ 25 ≤ ((target % sEff : ℕ) : ℚ) / (sEff : ℚ)) ∧
    (pllKfull target sEff = 2 ^ 24 → 2 ^ 25 ≤ sEff) ∧
    (2 ^ 25 ≤ sEff → target % sEff = sEff - 1 → pllKfull target sEff = 2 ^ 24) ∧
    (pllKfull target sEff = 2 ^ 24 →
      1 / 2 ^ 25 ≤ (target : ℚ) / sEff - (((target / sEff : ℕ) : ℚ) + (2 ^ 24 - 1) / 2 ^ 24) ∧
        (target : ℚ) / sEff - (((target / sEff : ℕ) : ℚ) + (2 ^ 24 - 1) / 2 ^ 24) < 1 / 2 ^ 24)

/-- R171: 0 ≤ k ≤ 2^24 - 1 after every successful PLL_CALC. -/
def Obligations.PllFractionInRange : Prop :=
  ∀ s t : State, exec .pllCalc s = .next t → t.err = .ok → t.result1.toNat ≤ 2 ^ 24 - 1

/-- R172: with KSAT = 0, nmod and s_eff * k / 2^24 differ by at most s_eff / 2^25, and so do target and
s_eff * (ndiv + k / 2^24). -/
def Obligations.PllAccuracy : Prop :=
  ∀ target sEff : Nat, 0 < sEff → pllKsat (pllKfull target sEff) = false →
    |((target % sEff : ℕ) : ℚ) - (sEff : ℚ) * (pllK (pllKfull target sEff) : ℚ) / 2 ^ 24| ≤ (sEff : ℚ) / 2 ^ 25 ∧
    |(target : ℚ) - (sEff : ℚ) * (((target / sEff : ℕ) : ℚ) + (pllK (pllKfull target sEff) : ℚ) / 2 ^ 24)| ≤
      (sEff : ℚ) / 2 ^ 25

/-! ## The stream commands -/

/-- R186, R187: DMA_OPEN, and DMA_CLOSE, which keeps the geometry and the offset and sends no request. -/
def Obligations.DmaOpenAndCloseResult : Prop :=
  ∀ s : State,
    (s.stream.opened = false → exec .dmaOpen s = .next { s with stream := { s.stream with opened := true }, err := .ok }) ∧
    (s.stream.opened = true → exec .dmaOpen s = .next { s with err := .openFailed }) ∧
    (s.stream.opened = true → s.stream.state ≠ .running → s.stream.notify = false →
      exec .dmaClose s =
        .next { s with stream := { s.stream with opened := false, state := .idle, running := false }, err := .ok }) ∧
    (s.stream.opened = false ∨ s.stream.state = .running ∨ s.stream.notify = true →
      exec .dmaClose s = .next { s with err := .invalidState })

/-- R188, R189: DMA_HW_PARAMS, with GeometryOK written out and the state checks first. -/
def Obligations.DmaHwParamsResult : Prop :=
  ∀ (fb : Byte) (s : State),
    let ok := 0 < s.arg2.toNat ∧ s.arg2.toNat % 2 = 0 ∧ 0 < s.arg1.toNat ∧ s.arg1.toNat % s.arg2.toNat = 0 ∧
      0 < fb.toNat ∧ s.arg2.toNat % fb.toNat = 0 ∧ s.arg0.toNat % 2 = 0 ∧ s.arg0.toNat + s.arg1.toNat ≤ 2 ^ 32
    let allowed := s.stream.opened = true ∧ (s.stream.state = .idle ∨ s.stream.state = .prepared)
    (allowed → ok →
      exec (.dmaHwParams fb) s =
        .next { s with
          stream := { s.stream with
            base := s.arg0
            size := s.arg1
            period := s.arg2
            frameBytes := fb
            offset := 0
            configured := true
            state := .idle }
          err := .ok }) ∧
    (allowed → ¬ok → exec (.dmaHwParams fb) s = .next { s with err := .configMismatch }) ∧
    (¬allowed → exec (.dmaHwParams fb) s = .next { s with err := .invalidState })

/-- R190, R183, R184: DMA_PREPARE resets the offset, clears the running flag and loads the first period's descriptor without
starting the channel. -/
def Obligations.DmaPrepareResult : Prop :=
  ∀ s : State,
    (s.stream.opened = true → s.stream.state ≠ .running → s.stream.configured = true →
      let count := dmaCtrlEncode s.params (BitVec.ofNat 32 (s.stream.period.toNat / 2))
      exec .dmaPrepare s =
        .next { s with
          stream := { s.stream with offset := 0, running := false, descLoaded := true, state := .prepared }
          channel := { s.channel with src := s.stream.base, dst := s.params.codecFifoAddr, ctrl := count, loaded := true }
          trace := s.trace ++
            [.dma (.setSrc s.stream.base), .dma (.setDst s.params.codecFifoAddr), .dma (.setCtrl count)]
          err := .ok }) ∧
    (s.stream.opened = false ∨ s.stream.state = .running ∨ s.stream.configured = false →
      exec .dmaPrepare s = .next { s with err := .invalidState })

/-- R191, R192, R193, R232: every cell of the trigger table, from every state of an open stream, with the channel's answer to the
request; and the refusals, the TCMD check first. R234: a START or RESUME before any descriptor is sent anyway and recorded as
the model fault, and what the channel then does is not said; that the step answers a next state there is the model's
choice (log 6). -/
def Obligations.DmaTriggerTable : Prop :=
  ∀ (c : BitVec 4) (s : State),
    (4 ≤ c.toNat → exec (.dmaTrigger c) s = .next { s with err := .invalidCommand }) ∧
    (c.toNat < 4 → s.stream.opened = false → exec (.dmaTrigger c) s = .next { s with err := .invalidState }) ∧
    (c.toNat = 1 ∨ c.toNat = 3 → s.stream.opened = true → s.stream.notify = true →
      exec (.dmaTrigger c) s = .next { s with err := .invalidState }) ∧
    (c.toNat = 1 ∨ c.toNat = 3 → s.stream.opened = true → s.stream.notify = false → s.channel.loaded = true →
      exec (.dmaTrigger c) s =
        .next { s with
          stream := { s.stream with running := true, state := .running }
          channel := { s.channel with armed := true }
          trace := s.trace ++ [.dma .start]
          err := .ok }) ∧
    (c.toNat = 1 ∨ c.toNat = 3 → s.stream.opened = true → s.stream.notify = false → s.channel.loaded = false →
      ∃ t, exec (.dmaTrigger c) s = .next t ∧
        t = { s with
              stream := { s.stream with running := true, state := .running }
              channel := t.channel
              trace := s.trace ++ [.dma .start]
              modelFault := some .dmaStartUnloaded
              err := .ok }) ∧
    (c.toNat = 0 ∨ c.toNat = 2 → s.stream.opened = true →
      exec (.dmaTrigger c) s =
        .next { s with
          stream := { s.stream with running := false, state := if c.toNat = 0 then .idle else .paused }
          channel := { s.channel with
            late := s.channel.late || (s.channel.armed && s.params.dmaLateDone)
            armed := false }
          trace := s.trace ++ [.dma .stop]
          err := .ok })

/-- R234: the fault is sticky, and the only way to it is DMA_TRIGGER START or RESUME before any descriptor. -/
def Obligations.FaultOnlyFromUnloadedTrigger : Prop :=
  ∀ s t : State, s.loadedAgrees → step s = .next t →
    (s.modelFault ≠ none → t.modelFault = s.modelFault) ∧
    (s.modelFault = none → t.modelFault ≠ none →
      s.stream.descLoaded = false ∧ ∃ c : BitVec 4, s.nextCommand = some (.dmaTrigger c) ∧ (c = 1 ∨ c = 3))

/-- R194: DMA_POINTER returns the offset as a frame count. In a state that is configured with FRAME_BYTES = 0, which R29 (b)
excludes, nothing is claimed. -/
def Obligations.DmaPointerResult : Prop :=
  ∀ s : State,
    (s.stream.opened = true → s.stream.configured = true → s.stream.frameBytes ≠ 0 →
      exec .dmaPointer s =
        .next { s with
          result0 := BitVec.ofNat 32
            ((if s.stream.size.toNat ≤ s.stream.offset.toNat then 0 else s.stream.offset.toNat) /
              s.stream.frameBytes.toNat)
          err := .ok }) ∧
    (s.stream.opened = false ∨ s.stream.configured = false →
      exec .dmaPointer s = .next { s with err := .invalidState })

/-- R204: after every successful DMA_POINTER, RESULT0 < S.size div S.frame_bytes, and the quotient is exact. -/
def Obligations.PointerBelowFrameCount : Prop :=
  ∀ s t : State, s.stream.inv → exec .dmaPointer s = .next t → t.err = .ok →
    t.result0.toNat < s.stream.size.toNat / s.stream.frameBytes.toNat ∧
      s.stream.size.toNat % s.stream.frameBytes.toNat = 0

/-- R195: PERIOD_ACK lowers NOTIFY, and loads the descriptor at the new offset and starts the channel only if S.running = 1. -/
def Obligations.PeriodAckResult : Prop :=
  ∀ s : State,
    (s.stream.notify = true → s.stream.running = false →
      exec .periodAck s = .next { s with stream := { s.stream with notify := false }, err := .ok }) ∧
    (s.stream.notify = true → s.stream.running = true →
      let src := BitVec.ofNat 32 (s.stream.base.toNat + s.stream.offset.toNat)
      let count := dmaCtrlEncode s.params (BitVec.ofNat 32 (s.stream.period.toNat / 2))
      exec .periodAck s =
        .next { s with
          stream := { s.stream with notify := false, descLoaded := true }
          channel := { s.channel with
            src := src
            dst := s.params.codecFifoAddr
            ctrl := count
            loaded := true
            armed := true }
          trace := s.trace ++
            [.dma (.setSrc src), .dma (.setDst s.params.codecFifoAddr), .dma (.setCtrl count), .dma .start]
          err := .ok }) ∧
    (s.stream.notify = false → exec .periodAck s = .next { s with err := .invalidState })

/-! ## The completion sequencer and the DMA channel -/

/-- R197, R228: a COMPLETE step that takes a completion event of an open stream with no notification pending. It writes the
offset, ELAPSED and NOTIFY, notifies, and changes nothing else; it reads neither S.state nor S.running. R196: with no event
delivered there is nothing to take. The step is the move `complete`, or the idle step of an empty schedule (log 2, the
model's choice). -/
def Obligations.EffectiveCompletion : Prop :=
  ∀ (s : State) (rest : List Event), s.inputs = .complete :: rest ∨ (s.inputs = [] ∧ rest = []) →
    (s.pending = 0 → step s = .next { s with inputs := rest }) ∧
    ∀ n, s.pending = n + 1 → s.stream.opened = true → s.stream.notify = false →
      s.stream.offset.toNat + s.stream.period.toNat < 2 ^ 32 →
      step s =
        .next { s with
          inputs := rest
          pending := n
          stream := { s.stream with
            offset :=
              if s.stream.size.toNat ≤ s.stream.offset.toNat + s.stream.period.toNat then 0
              else BitVec.ofNat 32 (s.stream.offset.toNat + s.stream.period.toNat)
            elapsed := BitVec.ofNat 32 (s.stream.elapsed.toNat + 1)
            notify := true }
          trace := s.trace ++ [.notify] }

/-- R199: a completion of a stream that is not open sets STRAY, one while a notification is pending sets OVERRUN, and neither
changes anything else; outside reset, only a host write of 1 to the flag's bit in STATUS clears one. The step is the move
`complete`, or the idle step of an empty schedule (log 2, the model's choice). R253: while the stream is not open, a step that
runs no command has no output, and of its own accord the machine after reset does nothing but that a completion from the
environment sets STRAY; the move that delivers it is log 20, the model's reading. -/
def Obligations.DroppedCompletions : Prop :=
  (∀ (s : State) (rest : List Event) (n : Nat), s.inputs = .complete :: rest ∨ (s.inputs = [] ∧ rest = []) →
    s.pending = n + 1 →
    (s.stream.opened = false →
      step s = .next { s with inputs := rest, pending := n, stream := { s.stream with stray := true } }) ∧
    (s.stream.opened = true → s.stream.notify = true →
      step s = .next { s with inputs := rest, pending := n, stream := { s.stream with overrun := true } })) ∧
  (∀ s t : State, step s = .next t → s.nextIsReset = false →
    (s.stream.overrun = true → t.stream.overrun = false →
      ∃ addr bytes rest w, s.inputs = .write addr bytes :: rest ∧
        decodedWrite s.params addr bytes = some (0x1C, w) ∧ w.getLsbD 12 = true) ∧
    (s.stream.stray = true → t.stream.stray = false →
      ∃ addr bytes rest w, s.inputs = .write addr bytes :: rest ∧
        decodedWrite s.params addr bytes = some (0x1C, w) ∧ w.getLsbD 13 = true) ∧
    (s.stream.opened = false → s.nextCommand = none → t.stream.opened = false ∧ t.trace = s.trace)) ∧
  ∀ (p : Params) (rest : List Event),
    step (State.resetWith p) = .next (State.resetWith p) ∧
    ∃ t, step { State.resetWith p with inputs := .deliver :: .complete :: rest } = .next t ∧
      step t = .next { State.resetWith p with inputs := rest, stream := { Stream.atReset with stray := true } }

/-- R232: SignalRun and SignalLate deliver one completion event when they are enabled, and are used up by it; that one which is
not enabled does nothing is the model's choice (log 2). R225, R196: an event the environment delivers waits for COMPLETE too,
whatever the channel is doing (log 20, the model's reading). -/
def Obligations.ChannelSignalsOnce : Prop :=
  ∀ (s : State) (rest : List Event),
    (s.inputs = .deliver :: rest → step s = .next { s with inputs := rest, pending := s.pending + 1 }) ∧
    (s.inputs = .signalRun :: rest → s.channel.armed = true →
      step s =
        .next { s with inputs := rest, pending := s.pending + 1, channel := { s.channel with armed := false } }) ∧
    (s.inputs = .signalRun :: rest → s.channel.armed = false → step s = .next { s with inputs := rest }) ∧
    (s.inputs = .signalLate :: rest → s.channel.late = true →
      step s =
        .next { s with inputs := rest, pending := s.pending + 1, channel := { s.channel with late := false } }) ∧
    (s.inputs = .signalLate :: rest → s.channel.late = false → step s = .next { s with inputs := rest })

/-- R198: one effective COMPLETE maps S.offset to (S.offset + S.period) mod S.size, and keeps it 0 when nothing is configured. -/
def Obligations.WrapLaw : Prop :=
  ∀ s : State, s.stream.inv → s.stream.opened = true → s.stream.notify = false →
    (s.stream.configured = true →
      s.takeCompletion.stream.offset.toNat =
        (s.stream.offset.toNat + s.stream.period.toNat) % s.stream.size.toNat) ∧
    (s.stream.configured = false → s.takeCompletion.stream.offset = 0)

/-- R203: from any configured state, S.size div S.period effective completions, each followed by its PERIOD_ACK, return S.offset
to its starting value, and each is counted in ELAPSED (R235). -/
def Obligations.CompletionRoundTrip : Prop :=
  ∀ s : State, s.stream.inv → s.stream.configured = true → s.stream.opened = true → s.stream.notify = false →
    let n := s.stream.size.toNat / s.stream.period.toNat
    (s.completionRounds n).stream.offset = s.stream.offset ∧
      (s.completionRounds n).stream.elapsed = s.stream.elapsed + BitVec.ofNat 32 n ∧
      (s.completionRounds n).stream.notify = false

/-! ## Invariants and whole-machine rules -/

/-- R29: every step keeps the invariants (a) to (d) of the stream record, with the reset geometry of an unconfigured stream. -/
def Obligations.StreamInvariantKept : Prop :=
  ∀ s t : State, s.stream.inv → step s = .next t → t.stream.inv

/-- R25, R34, R234: every step keeps the parameters, SHADOW's size, the form of UNKNOWN, and the agreement of ch.loaded with
S.desc_loaded. -/
def Obligations.CarriedStateInvariantKept : Prop :=
  ∀ s t : State, s.params.wf → s.shadowSized → s.unknownValid → s.loadedAgrees → step s = .next t →
    t.params = s.params ∧ t.shadowSized ∧ t.unknownValid ∧ t.loadedAgrees

/-- R206: while S.state is not Running, the last request sent to the channel since reset was not Start; every step keeps that. -/
def Obligations.StoppedWhenNotRunningKept : Prop :=
  ∀ s t : State, s.stream.inv → s.stoppedWhenNotRunning → step s = .next t → t.stoppedWhenNotRunning

/-- R235: ELAPSED is the number of notifications raised since reset, modulo 2^32; every step keeps that. -/
def Obligations.ElapsedCountKept : Prop :=
  ∀ s t : State, s.elapsedCounts → step s = .next t → t.elapsedCounts

/-- R200, R206: a step that sends Start is a DMA_TRIGGER START or RESUME, or a PERIOD_ACK of a pending notification with
S.running = 1, and leaves S.state = Running. -/
def Obligations.StartRequestOrigin : Prop :=
  ∀ s t : State, s.stream.inv → step s = .next t → s.nextIsReset = false → .dma .start ∈ s.newOutputs t →
    t.stream.state = .running ∧
      ((∃ c : BitVec 4, s.nextCommand = some (.dmaTrigger c) ∧ (c = 1 ∨ c = 3)) ∨
        (s.nextCommand = some .periodAck ∧ s.stream.notify = true ∧ s.stream.running = true))

/-- R201: outside reset, S.running becomes 0 only through DMA_TRIGGER STOP or PAUSE. (DMA_PREPARE and DMA_CLOSE clear it too,
but they require a state that is not Running.) -/
def Obligations.RunningClearedOnlyByTriggers : Prop :=
  ∀ s t : State, s.stream.inv → step s = .next t → s.nextIsReset = false → s.stream.running = true →
    t.stream.running = false → ∃ c : BitVec 4, s.nextCommand = some (.dmaTrigger c) ∧ (c = 0 ∨ c = 2)

/-- R224, R226: outside reset, PERIOD_IRQ is lowered only by PERIOD_ACK, and raised only by a COMPLETE step of an open stream that
takes a delivered event and counts it. -/
def Obligations.PeriodIrqMoves : Prop :=
  ∀ s t : State, step s = .next t → s.nextIsReset = false →
    (s.periodIrq = true → t.periodIrq = false → s.nextCommand = some .periodAck) ∧
    (s.periodIrq = false → t.periodIrq = true →
      s.pending ≠ 0 ∧ s.stream.opened = true ∧ t.pending = s.pending - 1 ∧ t.stream.elapsed = s.stream.elapsed + 1)
end

