-- ==== Sys2Proof/Laws/Bits.lean ====
section
/-! SUPPORT. Concatenation and field extraction as arithmetic, so that facts about encodings come down to `omega`. -/

namespace Sys2Proof.Laws

/-- R10: {a, b} has a in the high bits. -/
theorem append_toNat {m n : Nat} (a : BitVec m) (b : BitVec n) :
    (a ++ b).toNat = a.toNat * 2 ^ n + b.toNat := by
  rw [BitVec.toNat_append, ← Nat.shiftLeft_add_eq_or_of_lt b.isLt, Nat.shiftLeft_eq]

/-- R10: a field of a value, `len` bits from bit `start` up. -/
theorem extract_toNat {n : Nat} (start len : Nat) (v : BitVec n) :
    (v.extractLsb' start len).toNat = v.toNat / 2 ^ start % 2 ^ len := by
  rw [BitVec.extractLsb'_toNat, Nat.shiftRight_eq_div_pow]

end Sys2Proof.Laws
end

