-- ==== Sys2Proof/Laws/State.lean ====
section
/-! SUPPORT. One lemma per field per update of State, so that no later proof unfolds a record update. -/

namespace Sys2Proof.Machine

variable (s : State)

/-! ## State.setErr -/

@[simp] theorem State.setErr_params (e : ErrCode) : (s.setErr e).params = s.params := rfl
@[simp] theorem State.setErr_inputs (e : ErrCode) : (s.setErr e).inputs = s.inputs := rfl
@[simp] theorem State.setErr_linkFaultAt (e : ErrCode) : (s.setErr e).linkFaultAt = s.linkFaultAt := rfl
@[simp] theorem State.setErr_pending (e : ErrCode) : (s.setErr e).pending = s.pending := rfl
@[simp] theorem State.setErr_arg0 (e : ErrCode) : (s.setErr e).arg0 = s.arg0 := rfl
@[simp] theorem State.setErr_arg1 (e : ErrCode) : (s.setErr e).arg1 = s.arg1 := rfl
@[simp] theorem State.setErr_arg2 (e : ErrCode) : (s.setErr e).arg2 = s.arg2 := rfl
@[simp] theorem State.setErr_result0 (e : ErrCode) : (s.setErr e).result0 = s.result0 := rfl
@[simp] theorem State.setErr_result1 (e : ErrCode) : (s.setErr e).result1 = s.result1 := rfl
@[simp] theorem State.setErr_result2 (e : ErrCode) : (s.setErr e).result2 = s.result2 := rfl
@[simp] theorem State.setErr_err (e : ErrCode) : (s.setErr e).err = e := rfl
@[simp] theorem State.setErr_timing (e : ErrCode) : (s.setErr e).timing = s.timing := rfl
@[simp] theorem State.setErr_lines (e : ErrCode) : (s.setErr e).lines = s.lines := rfl
@[simp] theorem State.setErr_shadow (e : ErrCode) : (s.setErr e).shadow = s.shadow := rfl
@[simp] theorem State.setErr_stream (e : ErrCode) : (s.setErr e).stream = s.stream := rfl
@[simp] theorem State.setErr_channel (e : ErrCode) : (s.setErr e).channel = s.channel := rfl
@[simp] theorem State.setErr_unknown (e : ErrCode) : (s.setErr e).unknown = s.unknown := rfl
@[simp] theorem State.setErr_modelFault (e : ErrCode) : (s.setErr e).modelFault = s.modelFault := rfl
@[simp] theorem State.setErr_trace (e : ErrCode) : (s.setErr e).trace = s.trace := rfl
@[simp] theorem State.setErr_rdata (e : ErrCode) : (s.setErr e).rdata = s.rdata := rfl
@[simp] theorem State.setErr_freeCount (e : ErrCode) : (s.setErr e).freeCount = s.freeCount := rfl

/-! ## State.setResult0 -/

@[simp] theorem State.setResult0_params (v : Word) : (s.setResult0 v).params = s.params := rfl
@[simp] theorem State.setResult0_inputs (v : Word) : (s.setResult0 v).inputs = s.inputs := rfl
@[simp] theorem State.setResult0_linkFaultAt (v : Word) : (s.setResult0 v).linkFaultAt = s.linkFaultAt := rfl
@[simp] theorem State.setResult0_pending (v : Word) : (s.setResult0 v).pending = s.pending := rfl
@[simp] theorem State.setResult0_arg0 (v : Word) : (s.setResult0 v).arg0 = s.arg0 := rfl
@[simp] theorem State.setResult0_arg1 (v : Word) : (s.setResult0 v).arg1 = s.arg1 := rfl
@[simp] theorem State.setResult0_arg2 (v : Word) : (s.setResult0 v).arg2 = s.arg2 := rfl
@[simp] theorem State.setResult0_result0 (v : Word) : (s.setResult0 v).result0 = v := rfl
@[simp] theorem State.setResult0_result1 (v : Word) : (s.setResult0 v).result1 = s.result1 := rfl
@[simp] theorem State.setResult0_result2 (v : Word) : (s.setResult0 v).result2 = s.result2 := rfl
@[simp] theorem State.setResult0_err (v : Word) : (s.setResult0 v).err = s.err := rfl
@[simp] theorem State.setResult0_timing (v : Word) : (s.setResult0 v).timing = s.timing := rfl
@[simp] theorem State.setResult0_lines (v : Word) : (s.setResult0 v).lines = s.lines := rfl
@[simp] theorem State.setResult0_shadow (v : Word) : (s.setResult0 v).shadow = s.shadow := rfl
@[simp] theorem State.setResult0_stream (v : Word) : (s.setResult0 v).stream = s.stream := rfl
@[simp] theorem State.setResult0_channel (v : Word) : (s.setResult0 v).channel = s.channel := rfl
@[simp] theorem State.setResult0_unknown (v : Word) : (s.setResult0 v).unknown = s.unknown := rfl
@[simp] theorem State.setResult0_modelFault (v : Word) : (s.setResult0 v).modelFault = s.modelFault := rfl
@[simp] theorem State.setResult0_trace (v : Word) : (s.setResult0 v).trace = s.trace := rfl
@[simp] theorem State.setResult0_rdata (v : Word) : (s.setResult0 v).rdata = s.rdata := rfl
@[simp] theorem State.setResult0_freeCount (v : Word) : (s.setResult0 v).freeCount = s.freeCount := rfl

/-! ## State.setResults -/

@[simp] theorem State.setResults_params (v0 v1 v2 : Word) : (s.setResults v0 v1 v2).params = s.params := rfl
@[simp] theorem State.setResults_inputs (v0 v1 v2 : Word) : (s.setResults v0 v1 v2).inputs = s.inputs := rfl
@[simp] theorem State.setResults_linkFaultAt (v0 v1 v2 : Word) : (s.setResults v0 v1 v2).linkFaultAt = s.linkFaultAt := rfl
@[simp] theorem State.setResults_pending (v0 v1 v2 : Word) : (s.setResults v0 v1 v2).pending = s.pending := rfl
@[simp] theorem State.setResults_arg0 (v0 v1 v2 : Word) : (s.setResults v0 v1 v2).arg0 = s.arg0 := rfl
@[simp] theorem State.setResults_arg1 (v0 v1 v2 : Word) : (s.setResults v0 v1 v2).arg1 = s.arg1 := rfl
@[simp] theorem State.setResults_arg2 (v0 v1 v2 : Word) : (s.setResults v0 v1 v2).arg2 = s.arg2 := rfl
@[simp] theorem State.setResults_result0 (v0 v1 v2 : Word) : (s.setResults v0 v1 v2).result0 = v0 := rfl
@[simp] theorem State.setResults_result1 (v0 v1 v2 : Word) : (s.setResults v0 v1 v2).result1 = v1 := rfl
@[simp] theorem State.setResults_result2 (v0 v1 v2 : Word) : (s.setResults v0 v1 v2).result2 = v2 := rfl
@[simp] theorem State.setResults_err (v0 v1 v2 : Word) : (s.setResults v0 v1 v2).err = s.err := rfl
@[simp] theorem State.setResults_timing (v0 v1 v2 : Word) : (s.setResults v0 v1 v2).timing = s.timing := rfl
@[simp] theorem State.setResults_lines (v0 v1 v2 : Word) : (s.setResults v0 v1 v2).lines = s.lines := rfl
@[simp] theorem State.setResults_shadow (v0 v1 v2 : Word) : (s.setResults v0 v1 v2).shadow = s.shadow := rfl
@[simp] theorem State.setResults_stream (v0 v1 v2 : Word) : (s.setResults v0 v1 v2).stream = s.stream := rfl
@[simp] theorem State.setResults_channel (v0 v1 v2 : Word) : (s.setResults v0 v1 v2).channel = s.channel := rfl
@[simp] theorem State.setResults_unknown (v0 v1 v2 : Word) : (s.setResults v0 v1 v2).unknown = s.unknown := rfl
@[simp] theorem State.setResults_modelFault (v0 v1 v2 : Word) : (s.setResults v0 v1 v2).modelFault = s.modelFault := rfl
@[simp] theorem State.setResults_trace (v0 v1 v2 : Word) : (s.setResults v0 v1 v2).trace = s.trace := rfl
@[simp] theorem State.setResults_rdata (v0 v1 v2 : Word) : (s.setResults v0 v1 v2).rdata = s.rdata := rfl
@[simp] theorem State.setResults_freeCount (v0 v1 v2 : Word) : (s.setResults v0 v1 v2).freeCount = s.freeCount := rfl

/-! ## State.setStream -/

@[simp] theorem State.setStream_params (t : Stream) : (s.setStream t).params = s.params := rfl
@[simp] theorem State.setStream_inputs (t : Stream) : (s.setStream t).inputs = s.inputs := rfl
@[simp] theorem State.setStream_linkFaultAt (t : Stream) : (s.setStream t).linkFaultAt = s.linkFaultAt := rfl
@[simp] theorem State.setStream_pending (t : Stream) : (s.setStream t).pending = s.pending := rfl
@[simp] theorem State.setStream_arg0 (t : Stream) : (s.setStream t).arg0 = s.arg0 := rfl
@[simp] theorem State.setStream_arg1 (t : Stream) : (s.setStream t).arg1 = s.arg1 := rfl
@[simp] theorem State.setStream_arg2 (t : Stream) : (s.setStream t).arg2 = s.arg2 := rfl
@[simp] theorem State.setStream_result0 (t : Stream) : (s.setStream t).result0 = s.result0 := rfl
@[simp] theorem State.setStream_result1 (t : Stream) : (s.setStream t).result1 = s.result1 := rfl
@[simp] theorem State.setStream_result2 (t : Stream) : (s.setStream t).result2 = s.result2 := rfl
@[simp] theorem State.setStream_err (t : Stream) : (s.setStream t).err = s.err := rfl
@[simp] theorem State.setStream_timing (t : Stream) : (s.setStream t).timing = s.timing := rfl
@[simp] theorem State.setStream_lines (t : Stream) : (s.setStream t).lines = s.lines := rfl
@[simp] theorem State.setStream_shadow (t : Stream) : (s.setStream t).shadow = s.shadow := rfl
@[simp] theorem State.setStream_stream (t : Stream) : (s.setStream t).stream = t := rfl
@[simp] theorem State.setStream_channel (t : Stream) : (s.setStream t).channel = s.channel := rfl
@[simp] theorem State.setStream_unknown (t : Stream) : (s.setStream t).unknown = s.unknown := rfl
@[simp] theorem State.setStream_modelFault (t : Stream) : (s.setStream t).modelFault = s.modelFault := rfl
@[simp] theorem State.setStream_trace (t : Stream) : (s.setStream t).trace = s.trace := rfl
@[simp] theorem State.setStream_rdata (t : Stream) : (s.setStream t).rdata = s.rdata := rfl
@[simp] theorem State.setStream_freeCount (t : Stream) : (s.setStream t).freeCount = s.freeCount := rfl

/-! ## State.setChannel -/

@[simp] theorem State.setChannel_params (c : Channel) : (s.setChannel c).params = s.params := rfl
@[simp] theorem State.setChannel_inputs (c : Channel) : (s.setChannel c).inputs = s.inputs := rfl
@[simp] theorem State.setChannel_linkFaultAt (c : Channel) : (s.setChannel c).linkFaultAt = s.linkFaultAt := rfl
@[simp] theorem State.setChannel_pending (c : Channel) : (s.setChannel c).pending = s.pending := rfl
@[simp] theorem State.setChannel_arg0 (c : Channel) : (s.setChannel c).arg0 = s.arg0 := rfl
@[simp] theorem State.setChannel_arg1 (c : Channel) : (s.setChannel c).arg1 = s.arg1 := rfl
@[simp] theorem State.setChannel_arg2 (c : Channel) : (s.setChannel c).arg2 = s.arg2 := rfl
@[simp] theorem State.setChannel_result0 (c : Channel) : (s.setChannel c).result0 = s.result0 := rfl
@[simp] theorem State.setChannel_result1 (c : Channel) : (s.setChannel c).result1 = s.result1 := rfl
@[simp] theorem State.setChannel_result2 (c : Channel) : (s.setChannel c).result2 = s.result2 := rfl
@[simp] theorem State.setChannel_err (c : Channel) : (s.setChannel c).err = s.err := rfl
@[simp] theorem State.setChannel_timing (c : Channel) : (s.setChannel c).timing = s.timing := rfl
@[simp] theorem State.setChannel_lines (c : Channel) : (s.setChannel c).lines = s.lines := rfl
@[simp] theorem State.setChannel_shadow (c : Channel) : (s.setChannel c).shadow = s.shadow := rfl
@[simp] theorem State.setChannel_stream (c : Channel) : (s.setChannel c).stream = s.stream := rfl
@[simp] theorem State.setChannel_channel (c : Channel) : (s.setChannel c).channel = c := rfl
@[simp] theorem State.setChannel_unknown (c : Channel) : (s.setChannel c).unknown = s.unknown := rfl
@[simp] theorem State.setChannel_modelFault (c : Channel) : (s.setChannel c).modelFault = s.modelFault := rfl
@[simp] theorem State.setChannel_trace (c : Channel) : (s.setChannel c).trace = s.trace := rfl
@[simp] theorem State.setChannel_rdata (c : Channel) : (s.setChannel c).rdata = s.rdata := rfl
@[simp] theorem State.setChannel_freeCount (c : Channel) : (s.setChannel c).freeCount = s.freeCount := rfl

/-! ## State.setUnknown -/

@[simp] theorem State.setUnknown_params (u : List Nat) : (s.setUnknown u).params = s.params := rfl
@[simp] theorem State.setUnknown_inputs (u : List Nat) : (s.setUnknown u).inputs = s.inputs := rfl
@[simp] theorem State.setUnknown_linkFaultAt (u : List Nat) : (s.setUnknown u).linkFaultAt = s.linkFaultAt := rfl
@[simp] theorem State.setUnknown_pending (u : List Nat) : (s.setUnknown u).pending = s.pending := rfl
@[simp] theorem State.setUnknown_arg0 (u : List Nat) : (s.setUnknown u).arg0 = s.arg0 := rfl
@[simp] theorem State.setUnknown_arg1 (u : List Nat) : (s.setUnknown u).arg1 = s.arg1 := rfl
@[simp] theorem State.setUnknown_arg2 (u : List Nat) : (s.setUnknown u).arg2 = s.arg2 := rfl
@[simp] theorem State.setUnknown_result0 (u : List Nat) : (s.setUnknown u).result0 = s.result0 := rfl
@[simp] theorem State.setUnknown_result1 (u : List Nat) : (s.setUnknown u).result1 = s.result1 := rfl
@[simp] theorem State.setUnknown_result2 (u : List Nat) : (s.setUnknown u).result2 = s.result2 := rfl
@[simp] theorem State.setUnknown_err (u : List Nat) : (s.setUnknown u).err = s.err := rfl
@[simp] theorem State.setUnknown_timing (u : List Nat) : (s.setUnknown u).timing = s.timing := rfl
@[simp] theorem State.setUnknown_lines (u : List Nat) : (s.setUnknown u).lines = s.lines := rfl
@[simp] theorem State.setUnknown_shadow (u : List Nat) : (s.setUnknown u).shadow = s.shadow := rfl
@[simp] theorem State.setUnknown_stream (u : List Nat) : (s.setUnknown u).stream = s.stream := rfl
@[simp] theorem State.setUnknown_channel (u : List Nat) : (s.setUnknown u).channel = s.channel := rfl
@[simp] theorem State.setUnknown_unknown (u : List Nat) : (s.setUnknown u).unknown = u := rfl
@[simp] theorem State.setUnknown_modelFault (u : List Nat) : (s.setUnknown u).modelFault = s.modelFault := rfl
@[simp] theorem State.setUnknown_trace (u : List Nat) : (s.setUnknown u).trace = s.trace := rfl
@[simp] theorem State.setUnknown_rdata (u : List Nat) : (s.setUnknown u).rdata = s.rdata := rfl
@[simp] theorem State.setUnknown_freeCount (u : List Nat) : (s.setUnknown u).freeCount = s.freeCount := rfl

/-! ## State.setPending -/

@[simp] theorem State.setPending_params (n : Nat) : (s.setPending n).params = s.params := rfl
@[simp] theorem State.setPending_inputs (n : Nat) : (s.setPending n).inputs = s.inputs := rfl
@[simp] theorem State.setPending_linkFaultAt (n : Nat) : (s.setPending n).linkFaultAt = s.linkFaultAt := rfl
@[simp] theorem State.setPending_pending (n : Nat) : (s.setPending n).pending = n := rfl
@[simp] theorem State.setPending_arg0 (n : Nat) : (s.setPending n).arg0 = s.arg0 := rfl
@[simp] theorem State.setPending_arg1 (n : Nat) : (s.setPending n).arg1 = s.arg1 := rfl
@[simp] theorem State.setPending_arg2 (n : Nat) : (s.setPending n).arg2 = s.arg2 := rfl
@[simp] theorem State.setPending_result0 (n : Nat) : (s.setPending n).result0 = s.result0 := rfl
@[simp] theorem State.setPending_result1 (n : Nat) : (s.setPending n).result1 = s.result1 := rfl
@[simp] theorem State.setPending_result2 (n : Nat) : (s.setPending n).result2 = s.result2 := rfl
@[simp] theorem State.setPending_err (n : Nat) : (s.setPending n).err = s.err := rfl
@[simp] theorem State.setPending_timing (n : Nat) : (s.setPending n).timing = s.timing := rfl
@[simp] theorem State.setPending_lines (n : Nat) : (s.setPending n).lines = s.lines := rfl
@[simp] theorem State.setPending_shadow (n : Nat) : (s.setPending n).shadow = s.shadow := rfl
@[simp] theorem State.setPending_stream (n : Nat) : (s.setPending n).stream = s.stream := rfl
@[simp] theorem State.setPending_channel (n : Nat) : (s.setPending n).channel = s.channel := rfl
@[simp] theorem State.setPending_unknown (n : Nat) : (s.setPending n).unknown = s.unknown := rfl
@[simp] theorem State.setPending_modelFault (n : Nat) : (s.setPending n).modelFault = s.modelFault := rfl
@[simp] theorem State.setPending_trace (n : Nat) : (s.setPending n).trace = s.trace := rfl
@[simp] theorem State.setPending_rdata (n : Nat) : (s.setPending n).rdata = s.rdata := rfl
@[simp] theorem State.setPending_freeCount (n : Nat) : (s.setPending n).freeCount = s.freeCount := rfl

/-! ## State.setShadow -/

@[simp] theorem State.setShadow_params (a : Nat) (v : Half) : (s.setShadow a v).params = s.params := rfl
@[simp] theorem State.setShadow_inputs (a : Nat) (v : Half) : (s.setShadow a v).inputs = s.inputs := rfl
@[simp] theorem State.setShadow_linkFaultAt (a : Nat) (v : Half) : (s.setShadow a v).linkFaultAt = s.linkFaultAt := rfl
@[simp] theorem State.setShadow_pending (a : Nat) (v : Half) : (s.setShadow a v).pending = s.pending := rfl
@[simp] theorem State.setShadow_arg0 (a : Nat) (v : Half) : (s.setShadow a v).arg0 = s.arg0 := rfl
@[simp] theorem State.setShadow_arg1 (a : Nat) (v : Half) : (s.setShadow a v).arg1 = s.arg1 := rfl
@[simp] theorem State.setShadow_arg2 (a : Nat) (v : Half) : (s.setShadow a v).arg2 = s.arg2 := rfl
@[simp] theorem State.setShadow_result0 (a : Nat) (v : Half) : (s.setShadow a v).result0 = s.result0 := rfl
@[simp] theorem State.setShadow_result1 (a : Nat) (v : Half) : (s.setShadow a v).result1 = s.result1 := rfl
@[simp] theorem State.setShadow_result2 (a : Nat) (v : Half) : (s.setShadow a v).result2 = s.result2 := rfl
@[simp] theorem State.setShadow_err (a : Nat) (v : Half) : (s.setShadow a v).err = s.err := rfl
@[simp] theorem State.setShadow_timing (a : Nat) (v : Half) : (s.setShadow a v).timing = s.timing := rfl
@[simp] theorem State.setShadow_lines (a : Nat) (v : Half) : (s.setShadow a v).lines = s.lines := rfl
@[simp] theorem State.setShadow_shadow (a : Nat) (v : Half) : (s.setShadow a v).shadow = s.shadow.set a v := rfl
@[simp] theorem State.setShadow_stream (a : Nat) (v : Half) : (s.setShadow a v).stream = s.stream := rfl
@[simp] theorem State.setShadow_channel (a : Nat) (v : Half) : (s.setShadow a v).channel = s.channel := rfl
@[simp] theorem State.setShadow_unknown (a : Nat) (v : Half) : (s.setShadow a v).unknown = s.unknown := rfl
@[simp] theorem State.setShadow_modelFault (a : Nat) (v : Half) : (s.setShadow a v).modelFault = s.modelFault := rfl
@[simp] theorem State.setShadow_trace (a : Nat) (v : Half) : (s.setShadow a v).trace = s.trace := rfl
@[simp] theorem State.setShadow_rdata (a : Nat) (v : Half) : (s.setShadow a v).rdata = s.rdata := rfl
@[simp] theorem State.setShadow_freeCount (a : Nat) (v : Half) : (s.setShadow a v).freeCount = s.freeCount := rfl

/-! ## State.clearLinkFault -/

@[simp] theorem State.clearLinkFault_params : (s.clearLinkFault).params = s.params := rfl
@[simp] theorem State.clearLinkFault_inputs : (s.clearLinkFault).inputs = s.inputs := rfl
@[simp] theorem State.clearLinkFault_linkFaultAt : (s.clearLinkFault).linkFaultAt = none := rfl
@[simp] theorem State.clearLinkFault_pending : (s.clearLinkFault).pending = s.pending := rfl
@[simp] theorem State.clearLinkFault_arg0 : (s.clearLinkFault).arg0 = s.arg0 := rfl
@[simp] theorem State.clearLinkFault_arg1 : (s.clearLinkFault).arg1 = s.arg1 := rfl
@[simp] theorem State.clearLinkFault_arg2 : (s.clearLinkFault).arg2 = s.arg2 := rfl
@[simp] theorem State.clearLinkFault_result0 : (s.clearLinkFault).result0 = s.result0 := rfl
@[simp] theorem State.clearLinkFault_result1 : (s.clearLinkFault).result1 = s.result1 := rfl
@[simp] theorem State.clearLinkFault_result2 : (s.clearLinkFault).result2 = s.result2 := rfl
@[simp] theorem State.clearLinkFault_err : (s.clearLinkFault).err = s.err := rfl
@[simp] theorem State.clearLinkFault_timing : (s.clearLinkFault).timing = s.timing := rfl
@[simp] theorem State.clearLinkFault_lines : (s.clearLinkFault).lines = s.lines := rfl
@[simp] theorem State.clearLinkFault_shadow : (s.clearLinkFault).shadow = s.shadow := rfl
@[simp] theorem State.clearLinkFault_stream : (s.clearLinkFault).stream = s.stream := rfl
@[simp] theorem State.clearLinkFault_channel : (s.clearLinkFault).channel = s.channel := rfl
@[simp] theorem State.clearLinkFault_unknown : (s.clearLinkFault).unknown = s.unknown := rfl
@[simp] theorem State.clearLinkFault_modelFault : (s.clearLinkFault).modelFault = s.modelFault := rfl
@[simp] theorem State.clearLinkFault_trace : (s.clearLinkFault).trace = s.trace := rfl
@[simp] theorem State.clearLinkFault_rdata : (s.clearLinkFault).rdata = s.rdata := rfl
@[simp] theorem State.clearLinkFault_freeCount : (s.clearLinkFault).freeCount = s.freeCount := rfl

/-! ## Raising an error and succeeding (R103, R106) -/

@[simp] theorem State.raise_eq (e : ErrCode) : s.raise e = s.setErr e := rfl
@[simp] theorem State.succeed_eq : s.succeed = s.setErr .ok := rfl

/-! ## Delivering a completion event (R196) -/

@[simp] theorem State.deliverCompletion_eq : s.deliverCompletion = s.setPending (s.pending + 1) := rfl

/-! ## State.emit: only the trace, the lines, the channel and the recorded fault can change (R12) -/

@[simp] theorem State.emit_params (o : Output) : (s.emit o).params = s.params := by cases o <;> rfl
@[simp] theorem State.emit_inputs (o : Output) : (s.emit o).inputs = s.inputs := by cases o <;> rfl
@[simp] theorem State.emit_linkFaultAt (o : Output) : (s.emit o).linkFaultAt = s.linkFaultAt := by cases o <;> rfl
@[simp] theorem State.emit_pending (o : Output) : (s.emit o).pending = s.pending := by cases o <;> rfl
@[simp] theorem State.emit_arg0 (o : Output) : (s.emit o).arg0 = s.arg0 := by cases o <;> rfl
@[simp] theorem State.emit_arg1 (o : Output) : (s.emit o).arg1 = s.arg1 := by cases o <;> rfl
@[simp] theorem State.emit_arg2 (o : Output) : (s.emit o).arg2 = s.arg2 := by cases o <;> rfl
@[simp] theorem State.emit_result0 (o : Output) : (s.emit o).result0 = s.result0 := by cases o <;> rfl
@[simp] theorem State.emit_result1 (o : Output) : (s.emit o).result1 = s.result1 := by cases o <;> rfl
@[simp] theorem State.emit_result2 (o : Output) : (s.emit o).result2 = s.result2 := by cases o <;> rfl
@[simp] theorem State.emit_err (o : Output) : (s.emit o).err = s.err := by cases o <;> rfl
@[simp] theorem State.emit_timing (o : Output) : (s.emit o).timing = s.timing := by cases o <;> rfl
@[simp] theorem State.emit_shadow (o : Output) : (s.emit o).shadow = s.shadow := by cases o <;> rfl
@[simp] theorem State.emit_stream (o : Output) : (s.emit o).stream = s.stream := by cases o <;> rfl
@[simp] theorem State.emit_unknown (o : Output) : (s.emit o).unknown = s.unknown := by cases o <;> rfl
@[simp] theorem State.emit_rdata (o : Output) : (s.emit o).rdata = s.rdata := by cases o <;> rfl
@[simp] theorem State.emit_freeCount (o : Output) : (s.emit o).freeCount = s.freeCount := by cases o <;> rfl
@[simp] theorem State.emit_trace (o : Output) : (s.emit o).trace = s.trace ++ [o] := by cases o <;> rfl

/-! ## State.emitAll -/

@[simp] theorem State.emitAll_nil : s.emitAll [] = s := rfl
@[simp] theorem State.emitAll_cons (o : Output) (os : List Output) : s.emitAll (o :: os) = (s.emit o).emitAll os := rfl
theorem State.emitAll_append (os os2 : List Output) : s.emitAll (os ++ os2) = (s.emitAll os).emitAll os2 := by
  simp [State.emitAll, List.foldl_append]

@[simp] theorem State.emitAll_params (os : List Output) : (s.emitAll os).params = s.params := by
  induction os generalizing s with
  | nil => rfl
  | cons o os ih => simp [ih]
@[simp] theorem State.emitAll_inputs (os : List Output) : (s.emitAll os).inputs = s.inputs := by
  induction os generalizing s with
  | nil => rfl
  | cons o os ih => simp [ih]
@[simp] theorem State.emitAll_linkFaultAt (os : List Output) : (s.emitAll os).linkFaultAt = s.linkFaultAt := by
  induction os generalizing s with
  | nil => rfl
  | cons o os ih => simp [ih]
@[simp] theorem State.emitAll_pending (os : List Output) : (s.emitAll os).pending = s.pending := by
  induction os generalizing s with
  | nil => rfl
  | cons o os ih => simp [ih]
@[simp] theorem State.emitAll_arg0 (os : List Output) : (s.emitAll os).arg0 = s.arg0 := by
  induction os generalizing s with
  | nil => rfl
  | cons o os ih => simp [ih]
@[simp] theorem State.emitAll_arg1 (os : List Output) : (s.emitAll os).arg1 = s.arg1 := by
  induction os generalizing s with
  | nil => rfl
  | cons o os ih => simp [ih]
@[simp] theorem State.emitAll_arg2 (os : List Output) : (s.emitAll os).arg2 = s.arg2 := by
  induction os generalizing s with
  | nil => rfl
  | cons o os ih => simp [ih]
@[simp] theorem State.emitAll_result0 (os : List Output) : (s.emitAll os).result0 = s.result0 := by
  induction os generalizing s with
  | nil => rfl
  | cons o os ih => simp [ih]
@[simp] theorem State.emitAll_result1 (os : List Output) : (s.emitAll os).result1 = s.result1 := by
  induction os generalizing s with
  | nil => rfl
  | cons o os ih => simp [ih]
@[simp] theorem State.emitAll_result2 (os : List Output) : (s.emitAll os).result2 = s.result2 := by
  induction os generalizing s with
  | nil => rfl
  | cons o os ih => simp [ih]
@[simp] theorem State.emitAll_err (os : List Output) : (s.emitAll os).err = s.err := by
  induction os generalizing s with
  | nil => rfl
  | cons o os ih => simp [ih]
@[simp] theorem State.emitAll_timing (os : List Output) : (s.emitAll os).timing = s.timing := by
  induction os generalizing s with
  | nil => rfl
  | cons o os ih => simp [ih]
@[simp] theorem State.emitAll_shadow (os : List Output) : (s.emitAll os).shadow = s.shadow := by
  induction os generalizing s with
  | nil => rfl
  | cons o os ih => simp [ih]
@[simp] theorem State.emitAll_stream (os : List Output) : (s.emitAll os).stream = s.stream := by
  induction os generalizing s with
  | nil => rfl
  | cons o os ih => simp [ih]
@[simp] theorem State.emitAll_unknown (os : List Output) : (s.emitAll os).unknown = s.unknown := by
  induction os generalizing s with
  | nil => rfl
  | cons o os ih => simp [ih]
@[simp] theorem State.emitAll_rdata (os : List Output) : (s.emitAll os).rdata = s.rdata := by
  induction os generalizing s with
  | nil => rfl
  | cons o os ih => simp [ih]
@[simp] theorem State.emitAll_freeCount (os : List Output) : (s.emitAll os).freeCount = s.freeCount := by
  induction os generalizing s with
  | nil => rfl
  | cons o os ih => simp [ih]
@[simp] theorem State.emitAll_trace (os : List Output) : (s.emitAll os).trace = s.trace ++ os := by
  induction os generalizing s with
  | nil => simp
  | cons o os ih => simp [ih]

end Sys2Proof.Machine
end

