-- ==== Sys2Proof/Laws/Ops.lean ====
section
/-! SUPPORT. One lemma for each shared operation that says once what it does, to be cited instead of unfolding it. -/

namespace Sys2Proof.Machine

/-! ## One output -/

section
variable (s : State)

@[simp] theorem State.emit_drive_lines (l : Line) (b : Bool) : (s.emit (.drive l b)).lines = s.lines.drive l b := rfl
@[simp] theorem State.emit_wait_lines (n : Nat) : (s.emit (.wait n)).lines = s.lines := rfl
@[simp] theorem State.emit_dma_lines (op : DmaOp) : (s.emit (.dma op)).lines = s.lines := rfl
@[simp] theorem State.emit_notify_lines : (s.emit .notify).lines = s.lines := rfl
@[simp] theorem State.emit_reset_lines : (s.emit .reset).lines = s.lines := rfl
@[simp] theorem State.emit_drive_channel (l : Line) (b : Bool) : (s.emit (.drive l b)).channel = s.channel := rfl
@[simp] theorem State.emit_wait_channel (n : Nat) : (s.emit (.wait n)).channel = s.channel := rfl
@[simp] theorem State.emit_dma_channel (op : DmaOp) :
    (s.emit (.dma op)).channel = s.channel.request s.params.dmaLateDone op := rfl
@[simp] theorem State.emit_notify_channel : (s.emit .notify).channel = s.channel := rfl
@[simp] theorem State.emit_reset_channel : (s.emit .reset).channel = s.channel := rfl
@[simp] theorem State.emit_drive_modelFault (l : Line) (b : Bool) : (s.emit (.drive l b)).modelFault = s.modelFault := rfl
@[simp] theorem State.emit_wait_modelFault (n : Nat) : (s.emit (.wait n)).modelFault = s.modelFault := rfl
@[simp] theorem State.emit_dma_modelFault (op : DmaOp) :
    (s.emit (.dma op)).modelFault = s.modelFault.or (s.channel.faultOf op) := rfl
@[simp] theorem State.emit_notify_modelFault : (s.emit .notify).modelFault = s.modelFault := rfl
@[simp] theorem State.emit_reset_modelFault : (s.emit .reset).modelFault = s.modelFault := rfl

end

@[simp] theorem Lines.drive_clk (l : Lines) (b : Bool) : l.drive .clk b = { l with clk := b } := rfl
@[simp] theorem Lines.drive_dat (l : Lines) (b : Bool) : l.drive .dat b = { l with dat := b } := rfl
@[simp] theorem Lines.drive_mode (l : Lines) (b : Bool) : l.drive .mode b = { l with mode := b } := rfl

/-! ## Line events: what the transmitter emits -/

/-- The outputs of the serial transmitter: Drive and Wait (R12). -/
def isLineEvent : Output → Bool
  | .drive _ _ => true
  | .wait _ => true
  | .dma _ => false
  | .notify => false
  | .reset => false

/-- The levels of the lines after a sequence of outputs (R30); a reset returns them to their reset levels (R251). -/
def Lines.after (l : Lines) : List Output → Lines
  | [] => l
  | .drive n b :: os => Lines.after (l.drive n b) os
  | .wait _ :: os => Lines.after l os
  | .dma _ :: os => Lines.after l os
  | .notify :: os => Lines.after l os
  | .reset :: os => Lines.after .atReset os

theorem Lines.after_append (l : Lines) (os os2 : List Output) : l.after (os ++ os2) = (l.after os).after os2 := by
  induction os generalizing l with
  | nil => rfl
  | cons o os ih => cases o <;> simp [Lines.after, ih]

/-- R12, R30: emitting line events records them and moves the lines, and changes nothing else. -/
theorem State.emitAll_lineEvents (s : State) (os : List Output) (h : os.all isLineEvent = true) :
    s.emitAll os = { s with trace := s.trace ++ os, lines := s.lines.after os } := by
  induction os generalizing s with
  | nil => simp [Lines.after]
  | cons o os ih =>
    simp only [List.all_cons, Bool.and_eq_true] at h
    cases o with
    | drive l b => simp [ih _ h.2, Lines.after, State.emit]
    | wait n => simp [ih _ h.2, Lines.after, State.emit]
    | dma op => simp [isLineEvent] at h
    | notify => simp [isLineEvent] at h
    | reset => simp [isLineEvent] at h

theorem sendByte_lineEvents (t : Timing) (v : Byte) : (sendByte t v).all isLineEvent = true := by
  simp [sendByte, bitsMsbFirst, sendBit, isLineEvent]

theorem transferEvents_lineEvents (t : Timing) (vs : List Byte) (a : Nat) :
    (transferEvents t vs a).all isLineEvent = true := by
  have h := sendByte_lineEvents t
  simp only [List.all_eq_true] at h
  simp only [transferEvents, List.all_append, Bool.and_eq_true]
  refine ⟨⟨by simp [isLineEvent], ?_⟩, ?_⟩
  · simp only [List.all_eq_true, List.mem_flatMap]
    rintro o ⟨v, _, ho⟩
    exact h v o ho
  · split <;> simp [endPulse, isLineEvent]

/-- R124, R126, R128: what Transmit returns and changes. -/
theorem State.transmit_eq (s : State) (vs : List Byte) :
    s.transmit vs =
      (acceptedBytes vs.length s.linkFaultAt,
        { s with
          trace := s.trace ++ transferEvents s.timing vs (acceptedBytes vs.length s.linkFaultAt)
          lines := s.lines.after (transferEvents s.timing vs (acceptedBytes vs.length s.linkFaultAt))
          linkFaultAt := none }) := by
  simp [State.transmit, State.emitAll_lineEvents _ _ (transferEvents_lineEvents _ _ _), State.clearLinkFault]

/-- R123: a bit cell ends with CLK high and DAT at the bit. -/
theorem Lines.after_sendBit (l : Lines) (t : Timing) (b : Bool) : l.after (sendBit t b) = ⟨true, b, l.mode⟩ := rfl

/-- R122, R123: a byte ends with CLK high and DAT at its bit 0. -/
theorem Lines.after_sendByte (l : Lines) (t : Timing) (v : Byte) :
    l.after (sendByte t v) = ⟨true, v.getLsbD 0, l.mode⟩ := rfl

/-- R126: never more bytes than asked for. -/
theorem acceptedBytes_le (n : Nat) (f : Option Nat) : acceptedBytes n f ≤ n := by
  cases f <;> simp [acceptedBytes]

/-! ## Descriptors -/

/-- R184: the three requests of a descriptor load, and nothing else; a request that is no Start never faults. -/
theorem State.loadDescriptor_eq (s : State) :
    s.loadDescriptor =
      { s with
        trace := s.trace ++ descriptorRequests s.params s.stream
        channel :=
          { s.channel with
            src := s.stream.source
            dst := s.params.codecFifoAddr
            ctrl := dmaCtrlEncode s.params s.stream.transferCount
            loaded := true }
        stream := { s.stream with descLoaded := true } } := by
  simp [State.loadDescriptor, descriptorRequests, State.emitAll, State.emit, State.setStream, Channel.request,
    Channel.faultOf]

/-! ## The completion interrupt -/

/-- R199: a completion while the stream is not open. -/
theorem State.takeCompletion_stray (s : State) (h : s.stream.opened = false) :
    s.takeCompletion = s.setStream { s.stream with stray := true } := by
  simp [State.takeCompletion, h]

/-- R199: a completion while a notification is pending. -/
theorem State.takeCompletion_overrun (s : State) (h : s.stream.opened = true) (hn : s.stream.notify = true) :
    s.takeCompletion = s.setStream { s.stream with overrun := true } := by
  simp [State.takeCompletion, h, hn]

/-- R197: an effective completion. -/
theorem State.takeCompletion_effective (s : State) (h : s.stream.opened = true) (hn : s.stream.notify = false) :
    s.takeCompletion = { s with stream := s.stream.advance, trace := s.trace ++ [.notify] } := by
  simp [State.takeCompletion, h, hn, State.setStream, State.emit]

/-- R195: the return from a notification of a stream that was stopped. -/
theorem State.periodReturn_stopped (s : State) (h : s.stream.running = false) :
    s.periodReturn = s.setStream { s.stream with notify := false } := by
  simp [State.periodReturn, h]

/-- R195: the return from a notification of a running stream: the next descriptor, then Start. -/
theorem State.periodReturn_running (s : State) (h : s.stream.running = true) :
    s.periodReturn =
      { s with
        stream := { s.stream with notify := false, descLoaded := true }
        trace := s.trace ++ descriptorRequests s.params s.stream ++ [.dma .start]
        channel :=
          { s.channel with
            src := s.stream.source
            dst := s.params.codecFifoAddr
            ctrl := dmaCtrlEncode s.params s.stream.transferCount
            loaded := true
            armed := true } } := by
  simp [State.periodReturn, h, State.loadDescriptor_eq, State.emit, State.setStream, Channel.request, Channel.faultOf,
    descriptorRequests, Stream.source, Stream.transferCount]

end Sys2Proof.Machine
end

