-- ==== Sys2Proof/Laws/Commands.lean ====
section
/-! SUPPORT. What the larger operations of the commands, of the completion sequencer and of the host's writes can do, said once. -/

namespace Sys2Proof.Machine

/-! ## The serial commands -/

/-- R129: what XMIT does once decode has passed. -/
theorem State.sendRaw_eq (s : State) (vs : List Byte) :
    s.sendRaw vs =
      { s with
        trace := s.trace ++ transferEvents s.timing vs (acceptedBytes vs.length s.linkFaultAt)
        lines := s.lines.after (transferEvents s.timing vs (acceptedBytes vs.length s.linkFaultAt))
        linkFaultAt := none
        result0 := BitVec.ofNat 32 (acceptedBytes vs.length s.linkFaultAt)
        err := .ok } := by
  unfold State.sendRaw
  rw [State.transmit_eq]
  rfl

/-- R145: WRITE_REG on a valid address, with the frame accepted in full. -/
theorem State.writeThrough_full (s : State) (a : Byte) (v : Half) (h : acceptedBytes 2 s.linkFaultAt = 2) :
    s.writeThrough a v =
      { s with
        trace := s.trace ++ transferEvents s.timing (frame s.params a v) 2
        lines := s.lines.after (transferEvents s.timing (frame s.params a v) 2)
        linkFaultAt := none
        result0 := 2
        err := .ok
        shadow := s.shadow.set a.toNat v
        unknown := removeAddr a.toNat s.unknown } := by
  have hl : (frame s.params a v).length = 2 := rfl
  unfold State.writeThrough
  rw [State.transmit_eq, hl, h]
  rfl

/-- R145, R152: WRITE_REG on a valid address, with the frame cut short. -/
theorem State.writeThrough_short (s : State) (a : Byte) (v : Half) (h : acceptedBytes 2 s.linkFaultAt ≠ 2) :
    s.writeThrough a v =
      { s with
        trace := s.trace ++ transferEvents s.timing (frame s.params a v) (acceptedBytes 2 s.linkFaultAt)
        lines := s.lines.after (transferEvents s.timing (frame s.params a v) (acceptedBytes 2 s.linkFaultAt))
        linkFaultAt := none
        result0 := BitVec.ofNat 32 (acceptedBytes 2 s.linkFaultAt)
        err := .linkError
        unknown := insertAddr a.toNat s.unknown } := by
  have hl : (frame s.params a v).length = 2 := rfl
  unfold State.writeThrough
  rw [State.transmit_eq, hl]
  dsimp only
  rw [if_neg h]
  rfl

/-! ## The stream -/

/-- R189: the eight conditions of GeometryOK. -/
theorem geometryOk_iff (base bytes period : Word) (fb : Byte) :
    geometryOk base bytes period fb = true ↔
      0 < period.toNat ∧ period.toNat % 2 = 0 ∧ 0 < bytes.toNat ∧ bytes.toNat % period.toNat = 0 ∧ 0 < fb.toNat ∧
        period.toNat % fb.toNat = 0 ∧ base.toNat % 2 = 0 ∧ base.toNat + bytes.toNat ≤ 2 ^ 32 := by
  simp only [geometryOk, Bool.and_eq_true, decide_eq_true_eq, and_assoc]

/-- R191: every trigger code, by its number. -/
theorem triggerOf_cases (c : BitVec 4) :
    (c = 0 ∧ triggerOf c = some .stop) ∨ (c = 1 ∧ triggerOf c = some .start) ∨ (c = 2 ∧ triggerOf c = some .pause) ∨
      (c = 3 ∧ triggerOf c = some .resume) ∨ (4 ≤ c.toNat ∧ triggerOf c = none) := by
  revert c
  decide

/-- R190: what DMA_PREPARE writes. -/
theorem State.prepareStream_eq (s : State) :
    s.prepareStream =
      { s with
        trace := s.trace ++ descriptorRequests s.params { s.stream with offset := 0, running := false }
        channel :=
          { s.channel with
            src := s.stream.base
            dst := s.params.codecFifoAddr
            ctrl := dmaCtrlEncode s.params s.stream.transferCount
            loaded := true }
        stream := { s.stream with offset := 0, running := false, descLoaded := true, state := .prepared } } := by
  simp [State.prepareStream, State.loadDescriptor_eq, Stream.source, Stream.transferCount, State.setStream]

/-! ## The completion sequencer and the host -/

/-- R196, R197, R199: a turn of the completion sequencer changes the stream record, the count of delivered completions
and the trace, and nothing else. -/
theorem State.complete_frame (s : State) :
    ∃ n st tr, s.complete = { s with pending := n, stream := st, trace := tr } := by
  unfold State.complete State.takeCompletion
  split
  · exact ⟨_, _, _, rfl⟩
  · split
    · exact ⟨_, _, _, rfl⟩
    · split <;> exact ⟨_, _, _, rfl⟩

/-- R197, R199: a turn of the completion sequencer emits nothing, or one notification. -/
theorem State.complete_trace (s : State) :
    s.complete.trace = s.trace ∨ s.complete.trace = s.trace ++ [.notify] := by
  unfold State.complete State.takeCompletion
  split
  · exact .inl rfl
  · split
    · exact .inl rfl
    · split
      · exact .inl rfl
      · exact .inr rfl

/-- R22, R23: a decoded host write changes an argument, a timing register or the sticky bits of STATUS, and nothing else. -/
theorem State.writeRegister_frame (s : State) (o : Byte) (w : Word) :
    ∃ a0 a1 a2 tm st, s.writeRegister o w = { s with arg0 := a0, arg1 := a1, arg2 := a2, timing := tm, stream := st } ∧
      (st = s.stream ∨ st = s.stream.clearSticky w) := by
  unfold State.writeRegister
  split <;> first | exact ⟨_, _, _, _, _, rfl, .inl rfl⟩ | exact ⟨_, _, _, _, _, rfl, .inr rfl⟩

end Sys2Proof.Machine
end

