-- ==== Sys2Proof/Laws/Encoding.lean ====
section
/-! SUPPORT. The words of 30_encoding.md R89 as numbers: what `encode` gives for each command with fields. -/

namespace Sys2Proof.Laws

theorem encode_writeReg_toNat (addr : Byte) (value : Half) :
    (encode (.writeReg addr value)).toNat = 0x10000000 + addr.toNat * 2 ^ 16 + value.toNat := by
  refine (append_toNat (0x1#4 ++ 0#4 ++ addr) value).trans ?_
  rw [append_toNat, append_toNat]
  simp; omega

theorem encode_readReg_toNat (addr : Byte) :
    (encode (.readReg addr)).toNat = 0x20000000 + addr.toNat * 2 ^ 16 := by
  refine (append_toNat (0x2#4 ++ 0#4 ++ addr) 0#16).trans ?_
  rw [append_toNat, append_toNat]
  simp; omega

theorem encode_xmit_toNat (len : BitVec 2) (b0 b1 b2 : Byte) :
    (encode (.xmit len b0 b1 b2)).toNat =
      0x30000000 + len.toNat * 2 ^ 24 + b0.toNat * 2 ^ 16 + b1.toNat * 2 ^ 8 + b2.toNat := by
  refine (append_toNat (0x3#4 ++ 0#2 ++ len ++ b0 ++ b1) b2).trans ?_
  rw [append_toNat, append_toNat, append_toNat, append_toNat]
  simp; omega

theorem encode_dmaHwParams_toNat (fb : Byte) : (encode (.dmaHwParams fb)).toNat = 0x70000000 + fb.toNat := by
  refine (append_toNat (0x7#4 ++ 0#20) fb).trans ?_
  rw [append_toNat]
  simp

theorem encode_dmaTrigger_toNat (tcmd : BitVec 4) :
    (encode (.dmaTrigger tcmd)).toNat = 0x90000000 + tcmd.toNat := by
  refine (append_toNat (0x9#4 ++ 0#24) tcmd).trans ?_
  rw [append_toNat]
  simp

/-- R62: the four lanes of a word, put together again, are the word. -/
theorem wordOfBytes_bytesOfWord (w : Word) : wordOfBytes (bytesOfWord w) = some w := by
  have h : (w.extractLsb' 24 8 ++ w.extractLsb' 16 8 ++ w.extractLsb' 8 8 ++ w.extractLsb' 0 8).toNat = w.toNat := by
    rw [append_toNat, append_toNat, append_toNat]
    simp only [extract_toNat]
    have := w.isLt
    omega
  exact congrArg some (BitVec.eq_of_toNat_eq h)

/-- R80: decoding the bytes of a word is decoding the word. -/
@[simp] theorem decode_bytesOfWord (w : Word) : decode (bytesOfWord w) = decodeWord w := by
  simp [decode, wordOfBytes_bytesOfWord]

/-- R87: the reserved-bit check accepts exactly zero bits. -/
theorem checkReserved_ok {n : Nat} (bits : BitVec n) (i : Instr) :
    checkReserved bits i = .ok i ↔ bits = 0 := by
  unfold checkReserved
  split <;> simp_all

end Sys2Proof.Laws
end

