-- ==== Sys2Proof/Laws/PerInstr.lean ====
section
/-! SUPPORT. Statements about every command, one lemma per constructor. EncodeOp: the OP field of a command's word is the
one 30_encoding.md R84 assigns it. -/

namespace Sys2Proof.Laws.EncodeOp

/-- R80, R84: word[31:28] of the encoding is the command's opcode. -/
def Statement (i : Instr) : Prop := (encode i).extractLsb' 28 4 = i.opcode

theorem nop : Statement .nop := by simp [Statement, encode, Instr.opcode]
theorem writeReg (addr : Byte) (value : Half) : Statement (.writeReg addr value) := by
  refine BitVec.eq_of_toNat_eq ?_
  rw [extract_toNat, encode_writeReg_toNat, Instr.opcode]
  simp; omega
theorem readReg (addr : Byte) : Statement (.readReg addr) := by
  refine BitVec.eq_of_toNat_eq ?_
  rw [extract_toNat, encode_readReg_toNat, Instr.opcode]
  simp; omega
theorem xmit (len : BitVec 2) (b0 b1 b2 : Byte) : Statement (.xmit len b0 b1 b2) := by
  refine BitVec.eq_of_toNat_eq ?_
  rw [extract_toNat, encode_xmit_toNat, Instr.opcode]
  simp; omega
theorem pllCalc : Statement .pllCalc := by simp [Statement, encode, Instr.opcode]
theorem dmaOpen : Statement .dmaOpen := by simp [Statement, encode, Instr.opcode]
theorem dmaClose : Statement .dmaClose := by simp [Statement, encode, Instr.opcode]
theorem dmaHwParams (fb : Byte) : Statement (.dmaHwParams fb) := by
  refine BitVec.eq_of_toNat_eq ?_
  rw [extract_toNat, encode_dmaHwParams_toNat, Instr.opcode]
  simp; omega
theorem dmaPrepare : Statement .dmaPrepare := by simp [Statement, encode, Instr.opcode]
theorem dmaTrigger (tcmd : BitVec 4) : Statement (.dmaTrigger tcmd) := by
  refine BitVec.eq_of_toNat_eq ?_
  rw [extract_toNat, encode_dmaTrigger_toNat, Instr.opcode]
  simp; omega
theorem dmaPointer : Statement .dmaPointer := by simp [Statement, encode, Instr.opcode]
theorem periodAck : Statement .periodAck := by simp [Statement, encode, Instr.opcode]

end Sys2Proof.Laws.EncodeOp
end

