-- ==== Sys2Proof/Laws/Step.lean ====
section
/-! SUPPORT. What one step can do, said once. -/

namespace Sys2Proof.Machine

/-- Every way a step can reach a next state: the schedule is empty; the move runs no command; or a
command runs, and is kept or cut by a reset. -/
theorem step_cases {s t : State} (h : step s = .next t) :
    (s.inputs = [] ∧ t = s.complete) ∨
      (∃ e rest, s.inputs = e :: rest ∧ fetchWord s.params e = none ∧ t = State.move { s with inputs := rest } e) ∨
      (∃ e rest w, s.inputs = e :: rest ∧ fetchWord s.params e = some w ∧
        settleCommand e { s with inputs := rest } (executeWord w { s with inputs := rest }) = .next t) := by
  unfold step at h
  split at h
  · next hi => exact .inl ⟨hi, by simpa [State.idle] using h.symm⟩
  · next e rest hi =>
    split at h
    · next hf => exact .inr (.inl ⟨e, rest, hi, hf, by simpa using h.symm⟩)
    · next w hf => exact .inr (.inr ⟨e, rest, w, hi, hf, h⟩)

/-- R101: what a word does: its command's effect, or BAD_OPCODE. -/
theorem executeWord_cases (w : Word) (s : State) :
    (∃ i, decode (bytesOfWord w) = .ok i ∧ executeWord w s = exec i s) ∨
      (∃ r, decode (bytesOfWord w) = .error r ∧ executeWord w s = .next (s.raise .badOpcode)) := by
  unfold executeWord
  cases h : decode (bytesOfWord w) with
  | ok i => exact .inl ⟨i, rfl, rfl⟩
  | error r => exact .inr ⟨r, rfl, rfl⟩

/-- A command that is run is kept, unless the move is a reset that cuts it. -/
theorem settleCommand_cases {e : Event} {b t : State} {o : Host.Outcome State Fault Refusal}
    (h : settleCommand e b o = .next t) :
    (o = .next t ∧ ∀ w c p, e ≠ .resetDuring w c p) ∨
      (∃ w c p u, e = .resetDuring w c p ∧ o = .next u ∧ t = State.abandon c p b u) := by
  unfold settleCommand at h
  split at h
  · next w c p u => exact .inr ⟨w, c, p, u, rfl, rfl, by simpa using h.symm⟩
  · next hne =>
    refine .inl ⟨h, ?_⟩
    rintro w c p rfl
    exact hne w c p t rfl h

end Sys2Proof.Machine
end

