-- ==== Sys2Proof/Laws/Unknown.lean ====
section
/-! SUPPORT. The ghost set UNKNOWN (10_state.md R34): its operations keep its one form, and change membership as a set's do. -/

namespace Sys2Proof.Machine

/-- R34: adding an address. -/
@[simp] theorem mem_insertAddr (a b : Nat) (xs : List Nat) : b ∈ insertAddr a xs ↔ b = a ∨ b ∈ xs := by
  induction xs with
  | nil => simp [insertAddr]
  | cons x xs ih =>
    unfold insertAddr
    split
    · simp
    · split
      · next h => subst h; simp
      · simp only [List.mem_cons, ih]; tauto

/-- R34: removing an address. -/
@[simp] theorem mem_removeAddr (a b : Nat) (xs : List Nat) : b ∈ removeAddr a xs ↔ b ∈ xs ∧ b ≠ a := by
  simp [removeAddr]

/-- Adding keeps the form. -/
theorem insertAddr_rising (a : Nat) (xs : List Nat) (h : risingAddrs xs) : risingAddrs (insertAddr a xs) := by
  induction xs with
  | nil => simp [insertAddr, risingAddrs]
  | cons x xs ih =>
    have hx := List.pairwise_cons.mp h
    unfold insertAddr
    split
    · next hlt =>
      refine List.pairwise_cons.mpr ⟨?_, h⟩
      intro b hb
      rcases List.mem_cons.mp hb with rfl | hb
      · exact hlt
      · exact lt_trans hlt (hx.1 b hb)
    · split
      · exact h
      · refine List.pairwise_cons.mpr ⟨?_, ih hx.2⟩
        intro b hb
        rcases (mem_insertAddr a b xs).mp hb with rfl | hb
        · omega
        · exact hx.1 b hb

/-- Removing keeps the form. -/
theorem removeAddr_rising (a : Nat) (xs : List Nat) (h : risingAddrs xs) : risingAddrs (removeAddr a xs) :=
  List.Pairwise.filter _ h

/-- R252: the set at any reset has the form. -/
theorem unknownAtReset_rising (p : Params) (b : Bool) : risingAddrs (unknownAtReset p b) := by
  cases b
  · exact List.pairwise_lt_range
  · exact List.Pairwise.nil

end Sys2Proof.Machine
end

