-- ==== Sys2Proof/Tests/Slice0.lean ====
section
/-! SUPPORT. Tests of the model on the vectors of spec/95_test_vectors.md, and for each statement with hypotheses a witness: a
concrete state and operands that meet them all. Expected values are the spec's own. -/

namespace Sys2Proof.Tests

open Sys2Proof Sys2Proof.Machine

/-! ## Example states (95_test_vectors.md section 0) -/

def exampleParams : Params where
  regCount := 58
  regReset := 0
  quirkHPL := 52
  quirkHPR := 53
  regDefaults := List.replicate 58 0
  codecFifoAddr := 0x40000010
  ctrlEncode := .identity
  dmaLateDone := true
  l3ccBase := 0x50000000

/-- After reset, with the channel's unspecified words at 0. -/
def fresh : State := { State.resetWith exampleParams with channel := ⟨0, 0, 0, false, false, false⟩ }

/-- The configured stream of section 2.6, in a given state. -/
def streamAt (q : StreamState) (offset : Word) (notify : Bool) : Stream :=
  { Stream.atReset with
    opened := true
    configured := true
    state := q
    running := q == .running
    base := 0x30000000
    size := 8192
    period := 2048
    frameBytes := 4
    offset := offset
    notify := notify
    descLoaded := true }

/-- A machine with that stream, and a channel with a descriptor loaded. -/
def playing (q : StreamState) (offset : Word) (notify : Bool) : State :=
  { fresh with stream := streamAt q offset notify, channel := ⟨0x30000000, 0x40000010, 0x400, true, false, false⟩ }

/-- An open, unconfigured stream. -/
def opened : State := { fresh with stream := { Stream.atReset with opened := true } }

/-- A machine whose next move is `e`. -/
def facing (s : State) (e : Event) : State := { s with inputs := [e] }

/-- The next state of an outcome. -/
def reached : Host.Outcome State Fault Refusal → Option State
  | .next t => some t
  | .fault _ => none
  | .refused _ => none

/-- One command. -/
def did (s : State) (i : Instr) : Option State := reached (exec i s)

/-- One step whose move is `e`. -/
def moved (s : State) (e : Event) : Option State := reached (step (facing s e))

/-! ## Well-formedness -/

theorem test_wellFormed_refuses_xmit_len3 : (Instr.xmit 3 1 2 3).wellFormed = false := by decide

theorem test_wellFormed_takes_xmit_len2 : (Instr.xmit 2 1 2 3).wellFormed = true := by decide

/-! ## Decoding words written out from the formats of R81 -/

theorem test_decode_nop : decodeWord 0b00000000000000000000000000000000 = .ok .nop := by decide

theorem test_decode_writeReg : decodeWord 0b00010000_00110100_0000000000111001 = .ok (.writeReg 52 0x0039) := by decide

theorem test_decode_readReg : decodeWord 0b00100000_00110100_0000000000000000 = .ok (.readReg 52) := by decide

theorem test_decode_xmit : decodeWord 0b0011_00_01_01101001_00111001_00000000 = .ok (.xmit 1 0x69 0x39 0) := by decide

theorem test_decode_pllCalc : decodeWord 0b0100_0000000000000000000000000000 = .ok .pllCalc := by decide

theorem test_decode_dmaOpen : decodeWord 0b0101_0000000000000000000000000000 = .ok .dmaOpen := by decide

theorem test_decode_dmaClose : decodeWord 0b0110_0000000000000000000000000000 = .ok .dmaClose := by decide

theorem test_decode_dmaHwParams : decodeWord 0b0111_00000000000000000000_00000100 = .ok (.dmaHwParams 4) := by decide

theorem test_decode_dmaPrepare : decodeWord 0b1000_0000000000000000000000000000 = .ok .dmaPrepare := by decide

theorem test_decode_dmaTrigger : decodeWord 0b1001_000000000000000000000000_0001 = .ok (.dmaTrigger 1) := by decide

theorem test_decode_dmaPointer : decodeWord 0b1010_0000000000000000000000000000 = .ok .dmaPointer := by decide

theorem test_decode_periodAck : decodeWord 0b1011_0000000000000000000000000000 = .ok .periodAck := by decide

/-- DEC-2, DEC-3, DEC-4, DEC-5, DEC-6, DEC-7, DEC-9, DEC-10, DEC-13: words that are no command. -/
theorem test_decode_rejects :
    [0x00000001, 0xC0000000, 0xF0000000, 0x11340039, 0x20340001, 0x33000000, 0x34A50000, 0x70000104, 0x90000010,
      0x40000001].all (fun w => (decodeWord w).toOption == none) = true := by decide

/-- R62: the bytes of WRITE_REG 52, 0x0039 as the bus carries them, the least significant first. -/
theorem test_decode_bytes : decode [0x39, 0x00, 0x34, 0x10] = .ok (.writeReg 52 0x0039) := by decide

theorem test_decodeTableWord : decodeTableWord 32 0x10340039 = some (.writeReg 52 0x0039) := by decide

theorem test_encode_writeReg : encode (.writeReg 52 0x0039) = 0x10340039 := by decide

/-! ## Commands -/

/-- DEC-16: NOP after an error. -/
theorem test_nop : did { fresh with err := .badOpcode, result0 := 7 } .nop = some { fresh with result0 := 7 } := by
  decide

/-- DEC-3 at the machine: a reserved opcode raises BAD_OPCODE. -/
theorem test_reserved_opcode :
    (moved fresh (commandWrite 0xC0000000)).map (fun t => t.statusWord) = some 8 := by decide

/-- The step runs the command that `withFetchWord` places. -/
theorem test_placed_command :
    (reached (step (fresh.withFetchWord 32 0x50000000))).map (fun t => t.statusWord) = some 0x80 := by decide

/-- SL-1: XMIT 0xA5 with every timing register 1, as timed Drive events. -/
theorem test_xmit_trace :
    (did { fresh with timing := ⟨1, 1, 1, 1, 1⟩ } (.xmit 0 0xA5 0xFF 0xFF)).map (fun t => timedDrives 0 t.trace) =
      some [(0, .mode, true), (1, .clk, false), (2, .dat, true), (3, .clk, true), (4, .clk, false), (5, .dat, false),
        (6, .clk, true), (7, .clk, false), (8, .dat, true), (9, .clk, true), (10, .clk, false), (11, .dat, false),
        (12, .clk, true), (13, .clk, false), (14, .dat, false), (15, .clk, true), (16, .clk, false), (17, .dat, true),
        (18, .clk, true), (19, .clk, false), (20, .dat, false), (21, .clk, true), (22, .clk, false), (23, .dat, true),
        (24, .clk, true), (25, .mode, false), (26, .mode, true)] := by decide

/-- SL-3: only the first of two bytes accepted: 41 cycles, RESULT0 = 1, no error, DAT left at 0. -/
theorem test_xmit_short :
    (did { fresh with timing := ⟨2, 1, 2, 1, 1⟩, linkFaultAt := some 1 } (.xmit 1 0x16 0x55 0)).map
        (fun t => (duration t.trace, t.result0, t.err, t.lines)) =
      some (41, 1, .ok, ⟨true, false, true⟩) := by decide

/-- SH-2: a quirk register sends byte0 with bit 0 forced, and the shadow takes the value as written. -/
theorem test_writeReg_quirk :
    (did fresh (.writeReg 52 0x0039)).map (fun t => (sampledBits true true t.trace, t.shadowAt 52, t.result0, t.err)) =
      some ([false, true, true, false, true, false, false, true, false, false, true, true, true, false, false, true],
        0x0039, 2, .ok) := by decide +kernel

/-- SH-10: a short link: LINK_ERROR, RESULT0 = 1, the shadow unchanged, 11 in UNKNOWN. -/
theorem test_writeReg_short :
    (did { fresh with linkFaultAt := some 1 } (.writeReg 11 0x0055)).map
        (fun t => (t.err, t.result0, t.shadow == fresh.shadow, t.unknown)) =
      some (.linkError, 1, true, [11]) := by decide

/-- SH-6: READ_REG returns all sixteen bits. -/
theorem test_readReg :
    (did (fresh.setShadow 3 0xFE00) (.readReg 3)).map (fun t => t.result0) = some 0x0000FE00 := by decide

/-- SH-9: the reset register reads 0. -/
theorem test_readReg_reset :
    (did { fresh.setShadow 0 0x0123 with result0 := 5 } (.readReg 0)).map (fun t => t.result0) = some 0 := by
  decide

/-- PLL-3: the digit 5 rounds up. -/
theorem test_pll_rounds :
    (did { fresh with arg0 := 90316800, arg1 := 12000000 } .pllCalc).map (fun t => (t.result0, t.result1, t.result2)) =
      some (0x07, 0x86C227, 7) := by decide

/-- PLL-15: saturation, NWARN, and N = Ndiv mod 16. -/
theorem test_pll_saturates :
    (did { fresh with arg0 := 4294967295, arg1 := 33554432 } .pllCalc).map (fun t => (t.result0, t.result1, t.result2)) =
      some (0x6F, 0xFFFFFF, 127) := by decide

/-- DMA-1. -/
theorem test_dmaOpen : (did fresh .dmaOpen).map (fun t => t.statusWord) = some 0x80 := by decide

/-- DMA-39: closing a Paused stream keeps the geometry. -/
theorem test_dmaClose :
    (did (playing .paused 4096 false) .dmaClose).map (fun t => (t.err, t.statusWord, t.stream.size)) =
      some (.ok, 0x500, 8192) := by decide

/-- DMA-15: base + bytes = 2^32 is still allowed. -/
theorem test_dmaHwParams_edge :
    (did { opened with arg0 := 0xFFFFE000, arg1 := 0x2000, arg2 := 0x800 } (.dmaHwParams 4)).map
        (fun t => (t.statusWord, t.stream.base)) =
      some (0x180, 0xFFFFE000) := by decide

/-- DMA-12: FRAME_BYTES does not divide the period. -/
theorem test_dmaHwParams_mismatch :
    (did { opened with arg0 := 0x30000000, arg1 := 8192, arg2 := 2048 } (.dmaHwParams 3)).map (fun t => t.statusWord) =
      some 0x85 := by decide

/-- DMA-21: a Paused stream is prepared from the start of the buffer. -/
theorem test_dmaPrepare :
    (did (playing .paused 4096 false) .dmaPrepare).map (fun t => (t.statusWord, t.stream.offset, dmaRequests t.trace)) =
      some (0x590, 0, [.setSrc 0x30000000, .setDst 0x40000010, .setCtrl 0x400]) := by decide

/-- DMA-23. -/
theorem test_dmaTrigger_start :
    (did (playing .prepared 0 false) (.dmaTrigger 1)).map (fun t => (t.statusWord, dmaRequests t.trace, t.modelFault)) =
      some (0x5E0, [.start], none) := by decide

/-- DMA-29, program P6: a START before any descriptor is sent, and the model fault is recorded. -/
theorem test_dmaTrigger_unloaded :
    (did opened (.dmaTrigger 1)).map (fun t => (t.statusWord, dmaRequests t.trace, t.modelFault)) =
      some (0xE0, [.start], some .dmaStartUnloaded) := by decide

/-- DMA-33. -/
theorem test_dmaPointer :
    (did (playing .running 6144 false) .dmaPointer).map (fun t => t.result0) = some 1536 := by decide

/-- DMA-35. -/
theorem test_periodAck_running :
    (did (playing .running 4096 true) .periodAck).map (fun t => (dmaRequests t.trace, t.stream.notify)) =
      some ([.setSrc 0x30001000, .setDst 0x40000010, .setCtrl 0x400, .start], false) := by decide

/-- DMA-36. -/
theorem test_periodAck_stopped :
    (did (playing .idle 4096 true) .periodAck).map (fun t => (dmaRequests t.trace, t.stream.notify)) =
      some ([], false) := by decide

/-! ## Moves of the other agents -/

/-- CP-1: the wrap. -/
theorem test_completion_wraps :
    (moved { playing .running 6144 false with pending := 1 } .complete).map
        (fun t => (t.stream.offset, t.stream.elapsed, t.periodIrq)) =
      some (0, 1, true) := by decide

/-- CP-3. -/
theorem test_completion_overrun :
    (moved { playing .running 2048 true with pending := 1 } .complete).map (fun t => (t.statusWord, t.stream.offset)) =
      some (0x17E0, 2048) := by decide

/-- RS-3: a completion event of the environment just after reset sets STRAY. -/
theorem test_completion_after_reset :
    ((moved fresh .deliver).bind (fun t => moved t .complete)).map (fun t => (t.statusWord, t.pending)) =
      some (0x2000, 0) := by decide

/-- R71: two commands may come between a channel's signal and its COMPLETE. -/
theorem test_commands_before_completion :
    ((((moved { playing .running 0 false with channel := ⟨0, 0, 0, true, true, false⟩ } .signalRun).bind
      (fun t => moved t (commandWrite 0))).bind (fun t => moved t (commandWrite 0x90000000))).bind
        (fun t => moved t .complete)).map (fun t => (t.statusWord, t.stream.offset, t.stream.elapsed)) =
      some (0x780, 2048, 1) := by decide

/-- CP-7: a STOP of an armed channel may still be followed by a completion. -/
theorem test_stop_leaves_late :
    (did { playing .running 0 false with channel := ⟨0, 0, 0, true, true, false⟩ } (.dmaTrigger 0)).map
        (fun t => (t.channel.armed, t.channel.late)) =
      some (false, true) := by decide

/-- MM-5: T_DS takes the low half. -/
theorem test_write_timing :
    (moved fresh (.write (.offset 0x20) [0x78, 0x56, 0x34, 0x12])).map (fun t => t.readRegister 0x20) =
      some 0x00005678 := by decide

/-- MM-7: writing 1 to bit 12 of STATUS clears OVERRUN only. -/
theorem test_write_status :
    (moved { fresh with stream := { Stream.atReset with overrun := true, stray := true } }
        (.write (.absolute 0x5000001C) [0x00, 0x10, 0x00, 0x00])).map (fun t => t.statusWord) =
      some 0x2000 := by decide

/-- MM-2: a misaligned write to the CMD word issues nothing. -/
theorem test_misaligned_write :
    moved { fresh with err := .badOpcode } (.write (.offset 1) [0, 0, 0, 0]) = some { fresh with err := .badOpcode } := by
  decide

/-- MM-1: INFO reads REG_COUNT. -/
theorem test_read_info : (moved fresh (.read (.offset 0x50) 4)).map (fun t => t.rdata) = some [0x3A, 0, 0, 0] := by
  decide

/-- RS-2: a reset inside WRITE_REG: nothing committed, the lines idle, and every address unknown without a power-on. -/
theorem test_reset_inside_write :
    (moved fresh (.resetDuring 0x100A01FF 3 false)).map
        (fun t => (t.shadowAt 10, t.lines, t.unknown == List.range 58, t.trace.length)) =
      some (0, ⟨true, true, true⟩, true, 4) := by decide +kernel

/-! ## Witnesses: hypotheses that can be met -/

/-- R8 allows the example configuration. -/
theorem test_params_wf : exampleParams.wf := by decide

/-- For EncodedCommandsDecodeBack: the largest length, and every field at its largest value. -/
theorem test_witness_EncodedCommandsDecodeBack : (Instr.xmit 2 0xFF 0xFF 0xFF).wellFormed = true := by decide

/-- For DecodedWordsEncodeBack. -/
theorem test_witness_DecodedWordsEncodeBack : decodeWord 0x9000000F = .ok (.dmaTrigger 15) := by decide

/-- For DecoderAgreesWithOpcodeTable. -/
theorem test_witness_DecoderAgreesWithOpcodeTable :
    (⟨"XMIT", 0x30000000, 0xFC000000⟩ : OpcodeRow) ∈ opcodeRows := by decide

/-- For ReservedOpcodesRaiseBadOpcode: the least and the greatest such word. -/
theorem test_witness_ReservedOpcodesRaiseBadOpcode :
    0xC ≤ (0xC0000000 : Word).toNat / 2 ^ 28 ∧ 0xC ≤ (0xFFFFFFFF : Word).toNat / 2 ^ 28 := by decide

/-- For ReservedEncodingsRaiseBadOpcode: a word of each of its seven clauses. -/
theorem test_witness_ReservedEncodingsRaiseBadOpcode :
    ((0xB0000001 : Word).toNat / 2 ^ 28 ∈ [0x0, 0x4, 0x5, 0x6, 0x8, 0xA, 0xB] ∧ (0xB0000001 : Word).toNat % 2 ^ 28 ≠ 0) ∧
      ((0x11340039 : Word).toNat / 2 ^ 28 = 0x1 ∧ (0x11340039 : Word).toNat / 2 ^ 24 % 2 ^ 4 ≠ 0) ∧
      ((0x20340001 : Word).toNat / 2 ^ 28 = 0x2 ∧ (0x20340001 : Word).toNat % 2 ^ 16 ≠ 0) ∧
      ((0x34A50000 : Word).toNat / 2 ^ 28 = 0x3 ∧ (0x34A50000 : Word).toNat / 2 ^ 26 % 2 ^ 2 ≠ 0) ∧
      ((0x33000000 : Word).toNat / 2 ^ 28 = 0x3 ∧ (0x33000000 : Word).toNat / 2 ^ 24 % 2 ^ 2 = 3) ∧
      ((0x70000104 : Word).toNat / 2 ^ 28 = 0x7 ∧ (0x70000104 : Word).toNat / 2 ^ 8 % 2 ^ 20 ≠ 0) ∧
      ((0x90000010 : Word).toNat / 2 ^ 28 = 0x9 ∧ (0x90000010 : Word).toNat / 2 ^ 4 % 2 ^ 24 ≠ 0) ∧
      ((0x90000004 : Word).toNat / 2 ^ 4 = 0x9000000 ∧ 4 ≤ (0x90000004 : Word).toNat % 2 ^ 4) := by decide

/-- For StepRunsTheWrittenCommand: a word that decodes, written by address, and one that does not. -/
theorem test_witness_StepRunsTheWrittenCommand :
    (facing fresh (.write (.absolute 0x50000000) [0, 0, 0, 0x50])).inputs =
        .write (.absolute 0x50000000) [0, 0, 0, 0x50] :: [] ∧
      (BusAddress.absolute 0x50000000).inWindow exampleParams.l3ccBase = some 0 ∧
      wordOfBytes [0, 0, 0, 0x50] = some 0x50000000 ∧
      decodeWord 0x50000000 = .ok .dmaOpen ∧
      wordOfBytes [0, 0, 0, 0xC0] = some 0xC0000000 ∧ decodeWord 0xC0000000 = .error .reservedOpcode := by
  decide

/-- For CommandsLeaveCompletionsPending: a completion is waiting, and a COMPLETE stands after the command. -/
theorem test_witness_CommandsLeaveCompletionsPending :
    ({ playing .running 0 false with pending := 1, inputs := [commandWrite 0xA0000000, .complete] }).inputs =
      commandWrite 0xA0000000 :: [.complete] := by decide

/-- For UndecodedAccessesAreIgnored: misaligned, at the last byte of the window, and the sizes 3 and 5. -/
theorem test_witness_UndecodedAccessesAreIgnored :
    ((BusAddress.absolute 0x500000FF).inWindow exampleParams.l3ccBase = some 0xFF ∧ (0xFF : Byte).toNat % 4 ≠ 0 ∧
        (facing fresh (.write (.absolute 0x500000FF) [0, 0, 0, 0])).inputs =
          .write (.absolute 0x500000FF) [0, 0, 0, 0] :: []) ∧
      (([0, 0, 0] : List Byte).length ≠ 4 ∧
        (facing fresh (.write (.offset 0x00) [0, 0, 0])).inputs = .write (.offset 0x00) [0, 0, 0] :: []) ∧
      (5 ≠ 4 ∧ (facing fresh (.read (.offset 0x00) 5)).inputs = .read (.offset 0x00) 5 :: []) := by decide

/-- For DecodedReadsReturnLanes: the first and last register of each of its clauses, and the last word of the window. -/
theorem test_witness_DecodedReadsReturnLanes :
    ([0x04, 0x4C, 0x20, 0x50, 0x34, 0x00, 0x54, 0xFC] : List Byte).all
      (fun o => (BusAddress.absolute (0x50000000 + o.toNat)).inWindow exampleParams.l3ccBase == some o &&
        o.toNat % 4 == 0 &&
        (facing fresh (.read (.absolute (0x50000000 + o.toNat)) 4)).inputs ==
          [.read (.absolute (0x50000000 + o.toNat)) 4]) = true := by decide

/-- For HostWriteThenReadBack: each argument and timing register, STATUS, and the last word of the window. -/
theorem test_witness_HostWriteThenReadBack :
    ([0x04, 0x08, 0x0C, 0x20, 0x24, 0x28, 0x2C, 0x30, 0x1C, 0xFC] : List Byte).all
      (fun o => (BusAddress.offset o).inWindow exampleParams.l3ccBase == some o && o.toNat % 4 == 0 && o != 0 &&
        (facing fresh (.write (.offset o) (bytesOfWord 0xFFFFFFFF))).inputs ==
          [.write (.offset o) (bytesOfWord 0xFFFFFFFF)]) = true := by decide

/-- For StatusWordFields: the last pairs of its two tables. -/
theorem test_witness_StatusWordFields :
    ({ fresh with err := .badOpcode }).err = .badOpcode ∧ (playing .paused 0 false).stream.state = .paused := by
  decide

/-- For ResetStateIsGood, and for every statement on a good state. -/
theorem test_witness_good : exampleParams.wf ∧ fresh.good ∧ fresh.elapsedCounts := by decide

/-- For ResetInputRestoresResetState. -/
theorem test_witness_ResetInputRestoresResetState :
    (facing (playing .running 2048 true) (.reset false)).inputs = .reset false :: [] := by decide

/-- For ResetInsideCommandIsResetBefore. -/
theorem test_witness_ResetInsideCommandIsResetBefore :
    (facing fresh (.resetDuring 0x10340039 5 true)).inputs = .resetDuring 0x10340039 5 true :: [] := by decide

/-- For NopOnlySetsErrOk: the least and the greatest word with OP = 0 that is not NOP's. -/
theorem test_witness_NopOnlySetsErrOk :
    ((0x00000001 : Word).toNat / 2 ^ 28 = 0 ∧ (0x00000001 : Word).toNat % 2 ^ 28 ≠ 0) ∧
      ((0x0FFFFFFF : Word).toNat / 2 ^ 28 = 0 ∧ (0x0FFFFFFF : Word).toNat % 2 ^ 28 ≠ 0) := by decide

/-- For ErrorsChangeOnlyErr. -/
theorem test_witness_ErrorsChangeOnlyErr :
    (∃ t, exec .periodAck fresh = .next t ∧ t.err ≠ .ok ∧ t.err ≠ .linkError) ∧
      ∃ t, executeWord 0xC0000000 fresh = .next t ∧ t.err ≠ .ok ∧ t.err ≠ .linkError :=
  ⟨⟨{ fresh with err := .invalidState }, rfl, by decide, by decide⟩,
    ⟨{ fresh with err := .badOpcode }, rfl, by decide, by decide⟩⟩

/-- For CommandsRaiseOnlyTheirErrors: an error, and none. -/
theorem test_witness_CommandsRaiseOnlyTheirErrors :
    ((Instr.dmaTrigger 4).wellFormed = true ∧ ∃ t, exec (.dmaTrigger 4) fresh = .next t ∧ t.err = .invalidCommand) ∧
      (Instr.nop.wellFormed = true ∧ ∃ t, exec .nop fresh = .next t ∧ t.err = .ok) := by
  refine ⟨⟨by decide, ⟨{ fresh with err := .invalidCommand }, rfl, rfl⟩⟩, by decide, ⟨fresh, rfl, rfl⟩⟩

/-- For RegistersChangeOnlyByTheirWriters: a step that changes an argument, and one that changes a timing register. -/
theorem test_witness_RegistersChangeOnlyByTheirWriters_host :
    (moved fresh (.write (.offset 0x08) [1, 0, 0, 0])).map (fun t => t.arg1) = some 1 ∧
      (facing fresh (.write (.offset 0x08) [1, 0, 0, 0])).nextIsReset = false ∧
      (moved fresh (.write (.offset 0x30) [1, 0, 0, 0])).map (fun t => t.timing.ms) = some 1 ∧
      (facing fresh (.write (.offset 0x30) [1, 0, 0, 0])).nextIsReset = false := by decide

/-- For RegistersChangeOnlyByTheirWriters: a step that changes a result register. -/
theorem test_witness_RegistersChangeOnlyByTheirWriters :
    ∃ t, step (facing (fresh.setShadow 3 9) (commandWrite 0x20030000)) = .next t ∧
      (facing (fresh.setShadow 3 9) (commandWrite 0x20030000)).nextIsReset = false ∧ t.result0 = 9 := by
  refine ⟨{ fresh.setShadow 3 9 with result0 := 9 }, by rfl, by rfl, by rfl⟩

/-- For XmitSendsAndCounts: both hypotheses on the link. -/
theorem test_witness_XmitSendsAndCounts :
    ((2 : BitVec 2) ≠ 3 ∧ fresh.linkFaultAt = none ∧ 3 = 1 + (2 : BitVec 2).toNat) ∧
      (({ fresh with linkFaultAt := some 0 }).linkFaultAt = some 0 ∧ 0 = min 0 (1 + (2 : BitVec 2).toNat)) := by
  decide

/-- For TransferDuration, TransferSamplesBytesMsbFirst: none, some and all of the bytes. -/
theorem test_witness_transfers :
    0 ≤ ([0x16, 0x55] : List Byte).length ∧ 1 ≤ ([0x16, 0x55] : List Byte).length ∧
      2 ≤ ([0x16, 0x55] : List Byte).length ∧ 15 < 8 * 2 ∧
      (4, .clk, true) ∈ timedDrives 0 (transferEvents ⟨2, 1, 2, 1, 1⟩ [0x16, 0x55] 1) := by decide

/-- For SettlePulseEndsCompleteTransfer: SL-5, where the pulse is clamped, and the least sum at which it is not. -/
theorem test_witness_SettlePulseEndsCompleteTransfer :
    (1 : Half).toNat + (2 : Half).toNat < (5 : Half).toNat + 1 ∧
      ¬((4 : Half).toNat + (2 : Half).toNat < (5 : Half).toNat + 1) := by decide

/-- For ShortTransferLeavesNoPulse: the fault before the first byte, and before the last. -/
theorem test_witness_ShortTransferLeavesNoPulse :
    (({ fresh with linkFaultAt := some 0 }).linkFaultAt = some 0 ∧ 0 < ([0x16, 0x55] : List Byte).length) ∧
      (({ fresh with linkFaultAt := some 1 }).linkFaultAt = some 1 ∧ 1 < ([0x16, 0x55] : List Byte).length) := by
  decide

/-- For EmittedWaitsArePositive and the invariants LinesIdleKept, StreamInvariantKept, CarriedStateInvariantKept,
StoppedWhenNotRunningKept and ElapsedCountKept: a state that meets them all, from which a step is taken. -/
theorem test_witness_invariants :
    (playing .prepared 6144 false).good ∧ waitsPositive (playing .prepared 6144 false).trace = true ∧
      (playing .prepared 6144 false).elapsedCounts ∧
      (moved (playing .prepared 6144 false) (commandWrite 0x90000001)).isSome = true := by decide

/-- For WriteRegCommitsFullFrame: the last address, with no fault and with one after the last byte. -/
theorem test_witness_WriteRegCommitsFullFrame :
    fresh.params.wf ∧ (57 : Byte).toNat < fresh.params.regCount ∧ (∀ k, fresh.linkFaultAt = some k → 2 ≤ k) ∧
      (∀ k, ({ fresh with linkFaultAt := some 2 }).linkFaultAt = some k → 2 ≤ k) := by
  refine ⟨test_params_wf, by decide, ?_, ?_⟩
  · intro k h
    exact absurd h (by simp [fresh, State.resetWith])
  · intro k h
    have hk : 2 = k := by simpa using h
    omega

/-- For ShortLinkLeavesShadow: both counts. -/
theorem test_witness_ShortLinkLeavesShadow :
    fresh.params.wf ∧ (57 : Byte).toNat < fresh.params.regCount ∧ ({ fresh with linkFaultAt := some 0 }).linkFaultAt = some 0 ∧ 0 < 2 ∧
      ({ fresh with linkFaultAt := some 1 }).linkFaultAt = some 1 ∧ 1 < 2 := by decide

/-- For OutOfRangeAddressesRefused: the last address and the first beyond it. -/
theorem test_witness_OutOfRangeAddressesRefused :
    (∃ t u, exec (.writeReg 58 1) fresh = .next t ∧ exec (.readReg 58) fresh = .next u) ∧
      fresh.params.regCount ≤ (58 : Byte).toNat ∧ (57 : Byte).toNat < fresh.params.regCount :=
  ⟨⟨_, _, rfl, rfl⟩, by decide, by decide⟩

/-- For ReadRegReturnsShadow: an ordinary address and the reset register. -/
theorem test_witness_ReadRegReturnsShadow :
    fresh.shadowSized ∧ (57 : Byte).toNat < fresh.params.regCount ∧ (0 : Byte).toNat = fresh.params.regReset := by
  decide

/-- For ReadAfterWrite. -/
theorem test_witness_ReadAfterWrite :
    fresh.shadowSized ∧ ∃ t, exec (.writeReg 57 0x0100) fresh = .next t ∧ t.err = .ok ∧ t.shadow = t.shadow ∧
      t.params = t.params :=
  ⟨by decide, _, rfl, by decide, rfl, rfl⟩

/-- For CodecReceivesSixteenBits: an ordinary register and a quirk register; the link as for WriteRegCommitsFullFrame. -/
theorem test_witness_CodecReceivesSixteenBits :
    fresh.params.wf ∧ (57 : Byte).toNat < fresh.params.regCount ∧ (52 : Byte).toNat = fresh.params.quirkHPL ∧
      (∀ k, fresh.linkFaultAt = some k → 2 ≤ k) :=
  ⟨test_params_wf, by decide, by decide, test_witness_WriteRegCommitsFullFrame.2.2.1⟩

/-- For ShadowReadOnlyByReadReg. -/
theorem test_witness_ShadowReadOnlyByReadReg :
    (∀ a, Instr.writeReg 3 1 ≠ .readReg a) ∧ ∃ t, exec (.writeReg 3 1) fresh = .next t :=
  ⟨fun _ h => by simp at h, _, rfl⟩

/-- For PllCalcResult: the least accepted pair with the source halved and not halved, and one of each refused kind. -/
theorem test_witness_PllCalcResult :
    ((1 : Word).toNat ≠ 0 ∧ (2 : Word).toNat ≠ 0 ∧ ¬((2 : Word).toNat = 1 ∧ (1 : Word).toNat < 6)) ∧
      ((6 : Word).toNat ≠ 0 ∧ (1 : Word).toNat ≠ 0 ∧ ¬((1 : Word).toNat = 1 ∧ (6 : Word).toNat < 6)) ∧
      ((1 : Word).toNat = 1 ∧ (5 : Word).toNat < 6) ∧ (0 : Word).toNat = 0 := by decide

/-- For PllRoundsHalfUp, PllSaturation and PllAccuracy: PLL-14, which saturates, and PLL-13, which does not. -/
theorem test_witness_pll :
    0 < 33554432 ∧ 2 ^ 25 ≤ 33554432 ∧ 234881023 % 33554432 = 33554432 - 1 ∧ pllKfull 234881023 33554432 = 2 ^ 24 ∧
      pllKsat (pllKfull 79999999 20000000) = false := by decide

/-- For PllFractionInRange. -/
theorem test_witness_PllFractionInRange :
    ∃ t, exec .pllCalc { fresh with arg0 := 6, arg1 := 1 } = .next t ∧ t.err = .ok :=
  ⟨_, rfl, by decide⟩

/-- For DmaOpenAndCloseResult: each of its clauses. -/
theorem test_witness_DmaOpenAndCloseResult :
    fresh.stream.opened = false ∧
      ((playing .paused 0 false).stream.opened = true ∧ (playing .paused 0 false).stream.state ≠ .running ∧
        (playing .paused 0 false).stream.notify = false) ∧
      (playing .running 0 false).stream.state = .running ∧ (playing .idle 0 true).stream.notify = true := by
  decide

/-- For DmaHwParamsResult: allowed and accepted at the edge 2^32, allowed and refused one period above it, and not allowed. -/
theorem test_witness_DmaHwParamsResult :
    (opened.stream.opened = true ∧ opened.stream.state = .idle) ∧
      ((0xFFFFE000 : Word).toNat + (0x2000 : Word).toNat ≤ 2 ^ 32 ∧ geometryOk 0xFFFFE000 0x2000 0x800 4 = true) ∧
      geometryOk 0xFFFFE000 0x2800 0x800 4 = false ∧ (playing .paused 0 false).stream.state = .paused := by
  decide

/-- For DmaPrepareResult: both clauses. -/
theorem test_witness_DmaPrepareResult :
    ((playing .paused 4096 false).stream.opened = true ∧ (playing .paused 4096 false).stream.state ≠ .running ∧
        (playing .paused 4096 false).stream.configured = true) ∧
      opened.stream.configured = false ∧ (playing .running 0 false).stream.state = .running := by decide

/-- For DmaTriggerTable: each of its clauses, the TCMD values at their limits. -/
theorem test_witness_DmaTriggerTable :
    4 ≤ (4 : BitVec 4).toNat ∧ ((3 : BitVec 4).toNat < 4 ∧ fresh.stream.opened = false) ∧
      ((3 : BitVec 4).toNat = 3 ∧ (playing .running 0 true).stream.opened = true ∧
        (playing .running 0 true).stream.notify = true) ∧
      ((1 : BitVec 4).toNat = 1 ∧ (playing .idle 0 false).stream.opened = true ∧
        (playing .idle 0 false).stream.notify = false ∧ (playing .idle 0 false).channel.loaded = true) ∧
      (opened.stream.opened = true ∧ opened.stream.notify = false ∧ opened.channel.loaded = false) ∧
      ((0 : BitVec 4).toNat = 0 ∧ (2 : BitVec 4).toNat = 2) := by decide

/-- For FaultOnlyFromUnloadedTrigger: a step that records the fault, and one from a state that has it. -/
theorem test_witness_FaultOnlyFromUnloadedTrigger :
    opened.loadedAgrees ∧ opened.modelFault = none ∧
      (moved opened (commandWrite 0x90000001)).map (fun t => t.modelFault) = some (some .dmaStartUnloaded) ∧
      (moved { opened with modelFault := some .dmaStartUnloaded } (commandWrite 0)).map (fun t => t.modelFault) =
        some (some .dmaStartUnloaded) := by decide

/-- For DmaPointerResult and PointerBelowFrameCount: the last offset of the buffer, and the refusal. -/
theorem test_witness_pointer :
    (playing .running 6144 false).stream.inv ∧ (playing .running 6144 false).stream.opened = true ∧
      (playing .running 6144 false).stream.configured = true ∧ (playing .running 6144 false).stream.frameBytes ≠ 0 ∧
      (did (playing .running 6144 false) .dmaPointer).map (fun t => t.err) = some .ok ∧
      fresh.stream.opened = false := by decide

/-- For PeriodAckResult: each of its clauses. -/
theorem test_witness_PeriodAckResult :
    ((playing .idle 0 true).stream.notify = true ∧ (playing .idle 0 true).stream.running = false) ∧
      ((playing .running 0 true).stream.notify = true ∧ (playing .running 0 true).stream.running = true) ∧
      (playing .running 0 false).stream.notify = false := by decide

/-- A delivered completion, to be taken next. -/
def completing (s : State) : State := facing { s with pending := 1 } .complete

/-- For EffectiveCompletion: the last period of the buffer, by the move and by the idle step; and nothing delivered. -/
theorem test_witness_EffectiveCompletion :
    (completing (playing .running 6144 false)).inputs = .complete :: [] ∧
      (completing (playing .running 6144 false)).pending = 0 + 1 ∧
      (completing (playing .running 6144 false)).stream.opened = true ∧
      (completing (playing .running 6144 false)).stream.notify = false ∧
      (6144 : Word).toNat + (2048 : Word).toNat < 2 ^ 32 ∧
      ({ playing .running 6144 false with pending := 1 }).inputs = [] ∧
      (facing fresh .complete).inputs = .complete :: [] ∧ (facing fresh .complete).pending = 0 := by decide

/-- For DroppedCompletions: both kinds, by the move and by the idle step; a step that clears both flags; and one of a closed
stream that runs no command. -/
theorem test_witness_DroppedCompletions :
    ((completing fresh).inputs = .complete :: [] ∧ (completing fresh).pending = 0 + 1 ∧
        (completing fresh).stream.opened = false ∧ (completing (playing .running 0 true)).stream.opened = true ∧
        (completing (playing .running 0 true)).stream.notify = true ∧
        ({ fresh with pending := 1 }).inputs = []) ∧
      (fresh.stream.opened = false ∧ (facing fresh (.write (.offset 4) [1, 2, 3, 4])).nextCommand = none) ∧
      (facing { fresh with stream := { Stream.atReset with overrun := true, stray := true } }
        (.write (.offset 0x1C) [0, 0x30, 0, 0])).nextIsReset = false ∧
      (moved { fresh with stream := { Stream.atReset with overrun := true, stray := true } }
        (.write (.offset 0x1C) [0, 0x30, 0, 0])).map (fun t => (t.stream.overrun, t.stream.stray)) =
          some (false, false) := by decide

/-- For ChannelSignalsOnce: each signal, enabled and not. -/
theorem test_witness_ChannelSignalsOnce :
    (facing fresh .signalRun).inputs = .signalRun :: [] ∧ (facing fresh .signalLate).inputs = .signalLate :: [] ∧
      fresh.channel.armed = false ∧ fresh.channel.late = false ∧
      ({ fresh with channel := ⟨0, 0, 0, true, true, true⟩ }).channel.armed = true ∧
      ({ fresh with channel := ⟨0, 0, 0, true, true, true⟩ }).channel.late = true := by decide

/-- For WrapLaw and CompletionRoundTrip: a configured stream at its last period, and an unconfigured one. -/
theorem test_witness_WrapLaw :
    ((playing .running 6144 false).stream.inv ∧ (playing .running 6144 false).stream.opened = true ∧
        (playing .running 6144 false).stream.notify = false ∧
        (playing .running 6144 false).stream.configured = true) ∧
      (opened.stream.inv ∧ opened.stream.opened = true ∧ opened.stream.notify = false ∧
        opened.stream.configured = false) :=
  ⟨by decide, by decide⟩

/-- For StartRequestOrigin: a step that sends Start by each of its two ways. -/
theorem test_witness_StartRequestOrigin :
    (facing (playing .prepared 0 false) (commandWrite 0x90000001)).nextIsReset = false ∧
      (playing .prepared 0 false).stream.inv ∧ (playing .running 0 true).stream.inv ∧
      (moved (playing .prepared 0 false) (commandWrite 0x90000001)).map
          (fun t => dmaRequests ((playing .prepared 0 false).newOutputs t) == [.start]) = some true ∧
      (moved (playing .running 0 true) (commandWrite 0xB0000000)).map
          (fun t => (dmaRequests ((playing .running 0 true).newOutputs t)).contains .start) = some true :=
  ⟨by decide, by decide, by decide, by decide, by decide⟩

/-- For RunningClearedOnlyByTriggers: a PAUSE. -/
theorem test_witness_RunningClearedOnlyByTriggers :
    (playing .running 2048 false).stream.inv ∧
      (facing (playing .running 2048 false) (commandWrite 0x90000002)).nextIsReset = false ∧
      (playing .running 2048 false).stream.running = true ∧
      (moved (playing .running 2048 false) (commandWrite 0x90000002)).map (fun t => t.stream.running) = some false := by
  decide

/-- For PeriodIrqMoves: a step that lowers the output, and one that raises it. -/
theorem test_witness_PeriodIrqMoves :
    (playing .running 0 true).periodIrq = true ∧
      (moved (playing .running 0 true) (commandWrite 0xB0000000)).map (fun t => t.periodIrq) = some false ∧
      (playing .running 0 false).periodIrq = false ∧
      (moved { playing .running 0 false with pending := 1 } .complete).map (fun t => t.periodIrq) = some true ∧
      (facing { playing .running 0 false with pending := 1 } .complete).nextIsReset = false := by decide

end Sys2Proof.Tests
end

section
/-! PROOF. The stream record: what a command and every other move can write of it (44_dma_sequencer.md), and R29 for every step
(10_state.md). -/

namespace Sys2Proof.Machine

/-! ## What can be written of the stream record -/

/-- What a command can make of the stream record `t`. A refused command, and one of another family, keeps it. -/
inductive Stream.CommandEffect (t : Stream) : Instr → Stream → Prop where
  | kept (i : Instr) : t.CommandEffect i t
  /-- R186. -/
  | opened (h : t.opened = false) : t.CommandEffect .dmaOpen { t with opened := true }
  /-- R187. -/
  | closed (h : t.refusesClose = false) :
      t.CommandEffect .dmaClose { t with opened := false, state := .idle, running := false }
  /-- R188, R189. -/
  | configured (base bytes period : Word) (fb : Byte) (h : t.refusesHwParams = false)
      (hg : geometryOk base bytes period fb = true) :
      t.CommandEffect (.dmaHwParams fb) (t.configure base bytes period fb)
  /-- R190. -/
  | prepared (h : t.refusesPrepare = false) :
      t.CommandEffect .dmaPrepare { t with offset := 0, running := false, descLoaded := true, state := .prepared }
  /-- R191 to R193. -/
  | triggered (tcmd : BitVec 4) (c : Trigger) (hc : triggerOf tcmd = some c) (h : t.refusesTrigger c = false) :
      t.CommandEffect (.dmaTrigger tcmd) (t.trigger c)
  /-- R195: the next descriptor is loaded only while S.running = 1. -/
  | acknowledged (h : t.notify = true) :
      t.CommandEffect .periodAck { t with notify := false, descLoaded := t.running || t.descLoaded }

/-- A stream record that a command left as it was. -/
theorem Stream.CommandEffect.of_eq {t u : Stream} {i : Instr} (h : u = t) : t.CommandEffect i u := h ▸ .kept i

/-- What a move that neither runs a decoded command nor resets can make of the stream record `t`. -/
inductive Stream.MoveEffect (t : Stream) : Stream → Prop where
  | kept : t.MoveEffect t
  /-- R23: a host write to STATUS. -/
  | cleared (w : Word) : t.MoveEffect (t.clearSticky w)
  /-- R199: a completion while the stream is not open. -/
  | stray (h : t.opened = false) : t.MoveEffect { t with stray := true }
  /-- R199: a completion while a notification is pending. -/
  | overrun (h : t.opened = true) (hn : t.notify = true) : t.MoveEffect { t with overrun := true }
  /-- R197: an effective completion. -/
  | advanced (h : t.opened = true) (hn : t.notify = false) : t.MoveEffect t.advance

/-! ## The commands -/

/-- R181, R187: when DMA_CLOSE is accepted. -/
theorem Stream.refusesClose_eq_false (t : Stream) :
    t.refusesClose = false ↔ t.opened = true ∧ t.state ≠ .running ∧ t.notify = false := by
  simp [Stream.refusesClose, and_assoc]

/-- R181, R188: when DMA_HW_PARAMS is accepted, but for the geometry. -/
theorem Stream.refusesHwParams_eq_false (t : Stream) :
    t.refusesHwParams = false ↔ t.opened = true ∧ t.state ≠ .running ∧ t.state ≠ .paused := by
  simp [Stream.refusesHwParams, and_assoc]

/-- R129: a raw transmission leaves the stream record. -/
@[simp] theorem State.sendRaw_stream (s : State) (vs : List Byte) : (s.sendRaw vs).stream = s.stream := by
  rw [State.sendRaw_eq]

/-- R145: a register write leaves the stream record. -/
@[simp] theorem State.writeThrough_stream (s : State) (a : Byte) (v : Half) :
    (s.writeThrough a v).stream = s.stream := by
  by_cases h : acceptedBytes 2 s.linkFaultAt = 2
  · rw [State.writeThrough_full s a v h]
  · rw [State.writeThrough_short s a v h]

/-- R195: the stream record after the return from a notification. -/
@[simp] theorem State.periodReturn_stream (s : State) :
    s.periodReturn.stream =
      { s.stream with notify := false, descLoaded := s.stream.running || s.stream.descLoaded } := by
  cases h : s.stream.running
  · simp [State.periodReturn_stopped s h, h]
  · simp [State.periodReturn_running s h]

section
variable {s t : State}

/-! The commands of the other families leave the stream record. -/

theorem execNop_stream (h : execNop s = .next t) : t.stream = s.stream := by
  obtain rfl := Host.Outcome.next.inj h
  rfl

theorem execWriteReg_stream {a : Byte} {v : Half} (h : execWriteReg a v s = .next t) : t.stream = s.stream := by
  obtain rfl := Host.Outcome.next.inj h
  split <;> simp

theorem execReadReg_stream {a : Byte} (h : execReadReg a s = .next t) : t.stream = s.stream := by
  obtain rfl := Host.Outcome.next.inj h
  split <;> simp

theorem execXmit_stream {len : BitVec 2} {b0 b1 b2 : Byte} (h : execXmit len b0 b1 b2 s = .next t) :
    t.stream = s.stream := by
  obtain rfl := Host.Outcome.next.inj h
  split <;> simp

theorem execPllCalc_stream (h : execPllCalc s = .next t) : t.stream = s.stream := by
  obtain rfl := Host.Outcome.next.inj h
  split <;> simp [State.pllWrite]

theorem execDmaPointer_stream (h : execDmaPointer s = .next t) : t.stream = s.stream := by
  obtain rfl := Host.Outcome.next.inj h
  split <;> simp

/-! The stream commands (R186 to R195), each refused or with its own effect. -/

theorem execDmaOpen_effect (h : execDmaOpen s = .next t) : s.stream.CommandEffect .dmaOpen t.stream := by
  obtain rfl := Host.Outcome.next.inj h
  split
  · exact .kept _
  · next ho => exact .opened (by simpa using ho)

theorem execDmaClose_effect (h : execDmaClose s = .next t) : s.stream.CommandEffect .dmaClose t.stream := by
  obtain rfl := Host.Outcome.next.inj h
  split
  · exact .kept _
  · next hr => exact .closed (by simpa using hr)

theorem execDmaHwParams_effect {fb : Byte} (h : execDmaHwParams fb s = .next t) :
    s.stream.CommandEffect (.dmaHwParams fb) t.stream := by
  obtain rfl := Host.Outcome.next.inj h
  split
  · exact .kept _
  · next hr =>
    split
    · next hg => exact .configured _ _ _ _ (by simpa using hr) hg
    · exact .kept _

theorem execDmaPrepare_effect (h : execDmaPrepare s = .next t) : s.stream.CommandEffect .dmaPrepare t.stream := by
  obtain rfl := Host.Outcome.next.inj h
  split
  · exact .kept _
  · next hr =>
    rw [State.prepareStream_eq]
    exact .prepared (by simpa using hr)

theorem execDmaTrigger_effect {tcmd : BitVec 4} (h : execDmaTrigger tcmd s = .next t) :
    s.stream.CommandEffect (.dmaTrigger tcmd) t.stream := by
  obtain rfl := Host.Outcome.next.inj h
  split
  · exact .kept _
  · next c hc =>
    split
    · exact .kept _
    · next hr => simpa using .triggered tcmd c hc (by simpa using hr)

theorem execPeriodAck_effect (h : execPeriodAck s = .next t) : s.stream.CommandEffect .periodAck t.stream := by
  obtain rfl := Host.Outcome.next.inj h
  split
  · next hn => simpa using .acknowledged hn
  · exact .kept _

/-- R84: what a command can make of the stream record. -/
theorem exec_stream_effect {i : Instr} (h : exec i s = .next t) : s.stream.CommandEffect i t.stream := by
  cases i with
  | nop => exact .of_eq (execNop_stream h)
  | writeReg addr value => exact .of_eq (execWriteReg_stream h)
  | readReg addr => exact .of_eq (execReadReg_stream h)
  | xmit len b0 b1 b2 => exact .of_eq (execXmit_stream h)
  | pllCalc => exact .of_eq (execPllCalc_stream h)
  | dmaOpen => exact execDmaOpen_effect h
  | dmaClose => exact execDmaClose_effect h
  | dmaHwParams fb => exact execDmaHwParams_effect h
  | dmaPrepare => exact execDmaPrepare_effect h
  | dmaTrigger tcmd => exact execDmaTrigger_effect h
  | dmaPointer => exact .of_eq (execDmaPointer_stream h)
  | periodAck => exact execPeriodAck_effect h

end

/-! ## The other moves -/

/-- R197, R199: one completion, by what it finds. -/
theorem State.takeCompletion_stream_effect (s : State) : s.stream.MoveEffect s.takeCompletion.stream := by
  cases ho : s.stream.opened
  · rw [State.takeCompletion_stray s ho]
    exact .stray ho
  · cases hn : s.stream.notify
    · rw [State.takeCompletion_effective s ho hn]
      exact .advanced ho hn
    · rw [State.takeCompletion_overrun s ho hn]
      exact .overrun ho hn

/-- R196: the completion sequencer's turn. -/
theorem State.complete_stream_effect (s : State) : s.stream.MoveEffect s.complete.stream := by
  unfold State.complete
  split
  · exact .kept
  · exact (s.setPending (s.pending - 1)).takeCompletion_stream_effect

/-- R22, R23: a host write that issues no command. -/
theorem State.hostWrite_stream_effect (s : State) (addr : BusAddress) (bytes : List Byte) :
    s.stream.MoveEffect (s.hostWrite addr bytes).stream := by
  unfold State.hostWrite
  split
  · next o w _ =>
    obtain ⟨_, _, _, _, _, he, rfl | rfl⟩ := s.writeRegister_frame o w <;> rw [he]
    · exact .kept
    · exact .cleared w
  · exact .kept

/-- R66: a host read leaves the stream record. -/
@[simp] theorem State.hostRead_stream (s : State) (addr : BusAddress) (size : Nat) :
    (s.hostRead addr size).stream = s.stream := by
  unfold State.hostRead
  split <;> rfl

/-- R232: the channel's own steps leave the stream record. -/
@[simp] theorem State.signalRun_stream (s : State) : s.signalRun.stream = s.stream := by
  unfold State.signalRun
  split <;> simp

@[simp] theorem State.signalLate_stream (s : State) : s.signalLate.stream = s.stream := by
  unfold State.signalLate
  split <;> simp

/-- R250, R251. -/
@[simp] theorem State.resetInput_stream (p : Bool) (s : State) : (s.resetInput p).stream = .atReset := rfl

/-- R251: the command a reset cuts leaves nothing in the stream record. -/
@[simp] theorem State.abandon_stream (cut : Nat) (p : Bool) (before ran : State) :
    (State.abandon cut p before ran).stream = .atReset := rfl

/-- R15: a move that runs no command resets the stream record, or writes it as `Stream.MoveEffect` says. -/
theorem State.move_stream_cases (s : State) (e : Event) :
    (∃ p, e = .reset p ∧ (s.move e).stream = .atReset) ∨ s.stream.MoveEffect (s.move e).stream := by
  cases e with
  | write addr bytes => exact .inr (s.hostWrite_stream_effect addr bytes)
  | read addr size => exact .inr (by simpa [State.move] using .kept)
  | deliver => exact .inr .kept
  | signalRun => exact .inr (by simpa [State.move] using .kept)
  | signalLate => exact .inr (by simpa [State.move] using .kept)
  | complete => exact .inr s.complete_stream_effect
  | linkFault k => exact .inr .kept
  | reset p => exact .inl ⟨p, rfl, s.resetInput_stream p⟩
  | resetDuring w cut p => exact .inr .kept

/-! ## One step -/

/-- The command of the next step is the one its word decodes to. -/
theorem State.nextCommand_eq {s : State} {e : Event} {rest : List Event} {w : Word} {i : Instr}
    (hi : s.inputs = e :: rest) (hw : fetchWord s.params e = some w) (hd : decode (bytesOfWord w) = .ok i) :
    s.nextCommand = some i := by
  rw [Laws.decode_bytesOfWord] at hd
  simp [State.nextCommand, hi, hw, hd, Except.toOption]

/-- Every way a step can write the stream record: a reset; a move that runs no command, or a word that is none; the command
that the step runs. -/
theorem step_stream_cases {s t : State} (h : step s = .next t) :
    (s.nextIsReset = true ∧ t.stream = .atReset) ∨ s.stream.MoveEffect t.stream ∨
      ∃ i, s.nextCommand = some i ∧ s.stream.CommandEffect i t.stream := by
  obtain ⟨-, rfl⟩ | ⟨e, rest, hi, -, rfl⟩ | ⟨e, rest, w, hi, hw, hs⟩ := step_cases h
  · exact .inr (.inl s.complete_stream_effect)
  · obtain ⟨p, rfl, ht⟩ | ht := State.move_stream_cases { s with inputs := rest } e
    · exact .inl ⟨by simp [State.nextIsReset, hi], ht⟩
    · exact .inr (.inl ht)
  · obtain ⟨hx, -⟩ | ⟨w', cut, p, u, rfl, -, rfl⟩ := settleCommand_cases hs
    · obtain ⟨i, hd, hr⟩ | ⟨r, -, hr⟩ := executeWord_cases w { s with inputs := rest } <;> rw [hr] at hx
      · exact .inr (.inr ⟨i, State.nextCommand_eq hi hw hd, exec_stream_effect (s := { s with inputs := rest }) hx⟩)
      · obtain rfl := Host.Outcome.next.inj hx
        exact .inr (.inl .kept)
    · exact .inl ⟨by simp [State.nextIsReset, hi], rfl⟩

/-! ## The offset after an effective completion (R197, R198) -/

/-- R198: from a valid offset, one more period stays in the buffer, so the sum does not wrap. -/
theorem Stream.offset_add_period_le (t : Stream) (hg : t.geometryValid) (ho : t.offsetValid) :
    t.offset.toNat + t.period.toNat ≤ t.size.toNat := by
  obtain ⟨-, -, -, hsize, -⟩ := hg
  obtain ⟨hlt, hoff⟩ := ho
  have hdvd : t.period.toNat ∣ t.size.toNat - t.offset.toNat :=
    Nat.dvd_sub (Nat.dvd_of_mod_eq_zero hsize) (Nat.dvd_of_mod_eq_zero hoff)
  have hle : t.period.toNat ≤ t.size.toNat - t.offset.toNat := Nat.le_of_dvd (by omega) hdvd
  omega

/-- R198: the next offset of a configured stream, modulo the size of the buffer. -/
theorem Stream.nextOffset_toNat (t : Stream) (hg : t.geometryValid) (ho : t.offsetValid) :
    t.nextOffset.toNat = (t.offset.toNat + t.period.toNat) % t.size.toNat := by
  have hle := t.offset_add_period_le hg ho
  have hsum : (t.offset + t.period).toNat = t.offset.toNat + t.period.toNat := by
    rw [BitVec.toNat_add, Nat.mod_eq_of_lt (lt_of_le_of_lt hle t.size.isLt)]
  unfold Stream.nextOffset
  split
  · next hend =>
    have heq : t.offset.toNat + t.period.toNat = t.size.toNat := by
      rw [BitVec.le_def, hsum] at hend
      omega
    simp [heq]
  · next hend =>
    rw [BitVec.le_def, hsum] at hend
    rw [hsum, Nat.mod_eq_of_lt (by omega)]

/-- R198: with the reset geometry the offset returns to 0. -/
theorem Stream.nextOffset_of_geometryUnset (t : Stream) (hu : t.geometryUnset) : t.nextOffset = 0 := by
  obtain ⟨-, hsize, -, -⟩ := hu
  simp [Stream.nextOffset, hsize]

/-- R29 (c): the next offset is a whole number of periods inside the buffer. -/
theorem Stream.offsetValid_advance (t : Stream) (hg : t.geometryValid) (ho : t.offsetValid) :
    t.advance.offsetValid := by
  have hnext : t.advance.offset.toNat = (t.offset.toNat + t.period.toNat) % t.size.toNat := t.nextOffset_toNat hg ho
  obtain ⟨-, -, hpos, hsize, -⟩ := hg
  refine ⟨hnext ▸ Nat.mod_lt _ hpos, ?_⟩
  calc t.advance.offset.toNat % t.period.toNat
      = (t.offset.toNat + t.period.toNat) % t.period.toNat := by
        rw [hnext, Nat.mod_mod_of_dvd _ (Nat.dvd_of_mod_eq_zero hsize)]
    _ = 0 := by rw [Nat.add_mod_right]; exact ho.2

/-! ## The invariants of R29 -/

/-- R250: the stream record at reset meets them. -/
theorem Stream.inv_atReset : Stream.atReset.inv := by decide

/-- Outside Running the flag S.running is 0 (R29 (a)). -/
theorem Stream.inv.running_eq_false {t : Stream} (h : t.inv) (hs : t.state ≠ .running) : t.running = false := by
  obtain ⟨⟨hrun, -⟩, -⟩ := h
  exact Bool.eq_false_iff.mpr (mt hrun.mp hs)

/-- R197: an effective completion keeps them. -/
theorem Stream.inv.advance {t : Stream} (h : t.inv) (ho : t.opened = true) : t.advance.inv := by
  obtain ⟨⟨hrun, hgeo, hoff, -, -⟩, hunset⟩ := h
  refine ⟨⟨hrun, hgeo, fun hc => ?_, fun hc => ?_, fun _ => ho⟩, hunset⟩
  · exact t.offsetValid_advance (hgeo hc) (hoff hc)
  · exact t.nextOffset_of_geometryUnset (hunset hc)

/-- R188, R189: an accepted geometry brings them about, from any stream outside Running. -/
theorem Stream.inv.configure {t : Stream} (h : t.inv) (hr : t.refusesHwParams = false) {base bytes period : Word}
    {fb : Byte} (hg : geometryOk base bytes period fb = true) : (t.configure base bytes period fb).inv := by
  have hgeo : (t.configure base bytes period fb).geometryValid := (geometryOk_iff base bytes period fb).mp hg
  obtain ⟨-, hstate, -⟩ := t.refusesHwParams_eq_false.mp hr
  have hstopped : t.running = false := h.running_eq_false hstate
  obtain ⟨⟨-, -, -, -, hnotify⟩, -⟩ := h
  refine ⟨⟨by simp [Stream.configure, hstopped], fun _ => hgeo, fun _ => ?_, by simp [Stream.configure], hnotify⟩,
    by simp [Stream.configure]⟩
  obtain ⟨-, -, hpos, -⟩ := hgeo
  exact ⟨hpos, Nat.zero_mod _⟩

/-- R190: DMA_PREPARE starts the offset again at 0. -/
theorem Stream.inv.prepare {t : Stream} (h : t.inv) :
    Stream.inv { t with offset := 0, running := false, descLoaded := true, state := .prepared } := by
  obtain ⟨⟨-, hgeo, -, -, hnotify⟩, hunset⟩ := h
  refine ⟨⟨by simp, hgeo, fun hc => ?_, fun _ => rfl, hnotify⟩, hunset⟩
  obtain ⟨-, -, hpos, -⟩ := hgeo hc
  exact ⟨hpos, Nat.zero_mod _⟩

/-- R192: a trigger sets the running flag and the state together. -/
theorem Stream.inv.trigger {t : Stream} (h : t.inv) (c : Trigger) : (t.trigger c).inv := by
  obtain ⟨⟨-, hrest⟩, hunset⟩ := h
  cases c <;> exact ⟨⟨by simp [Stream.trigger], hrest⟩, hunset⟩

/-- R187: a stream with no pending notification can be closed. -/
theorem Stream.inv.close {t : Stream} (h : t.inv) (hr : t.refusesClose = false) :
    Stream.inv { t with opened := false, state := .idle, running := false } := by
  obtain ⟨-, -, hn⟩ := t.refusesClose_eq_false.mp hr
  obtain ⟨⟨-, hgeo, hoff, hzero, -⟩, hunset⟩ := h
  exact ⟨⟨by simp, hgeo, hoff, hzero, by simp [hn]⟩, hunset⟩

/-- R29 is kept by whatever a command makes of the stream record. -/
theorem Stream.CommandEffect.keeps_inv {t u : Stream} {i : Instr} (he : t.CommandEffect i u) (h : t.inv) : u.inv := by
  cases he with
  | kept => exact h
  | opened =>
    obtain ⟨⟨hrun, hgeo, hoff, hzero, -⟩, hunset⟩ := h
    exact ⟨⟨hrun, hgeo, hoff, hzero, fun _ => rfl⟩, hunset⟩
  | closed hr => exact h.close hr
  | configured base bytes period fb hr hg => exact h.configure hr hg
  | prepared => exact h.prepare
  | triggered tcmd c => exact h.trigger c
  | acknowledged =>
    obtain ⟨⟨hrun, hgeo, hoff, hzero, -⟩, hunset⟩ := h
    exact ⟨⟨hrun, hgeo, hoff, hzero, by simp⟩, hunset⟩

/-- R29 is kept by whatever another move makes of the stream record: the sticky bits stand in none of its clauses. -/
theorem Stream.MoveEffect.keeps_inv {t u : Stream} (he : t.MoveEffect u) (h : t.inv) : u.inv := by
  cases he with
  | kept => exact h
  | cleared w => exact h
  | stray => exact h
  | overrun => exact h
  | advanced ho => exact h.advance ho

/-- Settles O54, by the cases of what a step can write of the stream record. -/
theorem streamInvariantKept : Obligations.StreamInvariantKept := by
  intro s t hinv hstep
  obtain ⟨-, ht⟩ | hmove | ⟨i, -, hcmd⟩ := step_stream_cases hstep
  · exact ht ▸ Stream.inv_atReset
  · exact hmove.keeps_inv hinv
  · exact hcmd.keeps_inv hinv

end Sys2Proof.Machine
end

section
/-! PROOF. The encoding at the machine (30_encoding.md): how the decoder reads each OP, which words it rejects, and what
executing an illegal word or one of the rule's examples does (R86, R87, R91). -/

namespace Sys2Proof.Laws

/-! ## The decoder, by the opcode field -/

/-- R80: OP is the four highest bits of the word. -/
theorem opcodeField_toNat (w : Word) : (w.extractLsb' 28 4).toNat = w.toNat / 2 ^ 28 := by
  rw [extract_toNat]
  have := w.isLt
  omega

/-- R87: the reserved-bit check rejects every other value of the reserved bits. -/
theorem checkReserved_of_ne_zero {n : Nat} {bits : BitVec n} (i : Instr) (h : bits.toNat ≠ 0) :
    checkReserved bits i = .error .reservedBits := by
  have hbits : bits ≠ 0 := fun h0 => h (by simp [h0])
  exact if_neg hbits

section
variable {w : Word}

/-- R81: the seven commands without fields reserve the 28 bits below OP. -/
theorem decodeWord_fieldless (h : w.toNat / 2 ^ 28 ∈ [0x0, 0x4, 0x5, 0x6, 0x8, 0xA, 0xB]) :
    ∃ i, decodeWord w = checkReserved (w.extractLsb' 0 28) i := by
  simp only [List.mem_cons, List.not_mem_nil, or_false] at h
  simp only [decodeWord, opcodeField_toNat]
  obtain h | h | h | h | h | h | h := h <;> simp only [h] <;> exact ⟨_, rfl⟩

/-! The formats with fields: the reserved bits that are checked, and the fields of R82. -/

theorem decodeWord_writeReg (h : w.toNat / 2 ^ 28 = 0x1) :
    decodeWord w =
      checkReserved (w.extractLsb' 24 4) (.writeReg (w.extractLsb' 16 8) (w.extractLsb' 0 16)) := by
  simp only [decodeWord, opcodeField_toNat, h]

theorem decodeWord_readReg (h : w.toNat / 2 ^ 28 = 0x2) :
    decodeWord w = checkReserved (w.extractLsb' 24 4 ++ w.extractLsb' 0 16) (.readReg (w.extractLsb' 16 8)) := by
  simp only [decodeWord, opcodeField_toNat, h]

theorem decodeWord_xmit (h : w.toNat / 2 ^ 28 = 0x3) :
    decodeWord w =
      if w.extractLsb' 26 2 = 0 then
        if w.extractLsb' 24 2 = 3 then .error .reservedLength
        else .ok (.xmit (w.extractLsb' 24 2) (w.extractLsb' 16 8) (w.extractLsb' 8 8) (w.extractLsb' 0 8))
      else .error .reservedBits := by
  simp only [decodeWord, opcodeField_toNat, h]

theorem decodeWord_dmaHwParams (h : w.toNat / 2 ^ 28 = 0x7) :
    decodeWord w = checkReserved (w.extractLsb' 8 20) (.dmaHwParams (w.extractLsb' 0 8)) := by
  simp only [decodeWord, opcodeField_toNat, h]

theorem decodeWord_dmaTrigger (h : w.toNat / 2 ^ 28 = 0x9) :
    decodeWord w = checkReserved (w.extractLsb' 4 24) (.dmaTrigger (w.extractLsb' 0 4)) := by
  simp only [decodeWord, opcodeField_toNat, h]

/-- R86: the four reserved opcodes. -/
theorem decodeWord_reservedOpcode (h : 0xC ≤ w.toNat / 2 ^ 28) : decodeWord w = .error .reservedOpcode := by
  have hlt := w.isLt
  obtain h | h | h | h : w.toNat / 2 ^ 28 = 0xC ∨ w.toNat / 2 ^ 28 = 0xD ∨ w.toNat / 2 ^ 28 = 0xE ∨
      w.toNat / 2 ^ 28 = 0xF := by omega
  all_goals simp only [decodeWord, opcodeField_toNat, h]

/-- R87: XMIT is rejected when its reserved bits are not zero, and when LEN = 3. -/
theorem decodeWord_xmit_rejects (h : w.toNat / 2 ^ 28 = 0x3)
    (hr : w.toNat / 2 ^ 26 % 2 ^ 2 ≠ 0 ∨ w.toNat / 2 ^ 24 % 2 ^ 2 = 3) : ∃ r, decodeWord w = .error r := by
  rw [decodeWord_xmit h]
  split
  · next hbits =>
    have hzero : w.toNat / 2 ^ 26 % 2 ^ 2 = 0 := by rw [← extract_toNat, hbits]; rfl
    have hlen : w.extractLsb' 24 2 = 3 :=
      BitVec.eq_of_toNat_eq ((extract_toNat 24 2 w).trans (hr.resolve_left (not_not_intro hzero)))
    exact ⟨_, if_pos hlen⟩
  · exact ⟨_, rfl⟩

/-- R87: with every reserved bit 0, DMA_TRIGGER decodes whatever its TCMD is. -/
theorem decodeWord_dmaTrigger_of_reserved_zero (h : w.toNat / 2 ^ 4 = 0x9000000) :
    decodeWord w = .ok (.dmaTrigger (w.extractLsb' 0 4)) := by
  have hbits : w.extractLsb' 4 24 = 0 := BitVec.eq_of_toNat_eq (by rw [extract_toNat, h]; rfl)
  rw [decodeWord_dmaTrigger (by omega)]
  exact (checkReserved_ok _ _).mpr hbits

end

end Sys2Proof.Laws

namespace Sys2Proof.Machine

open Sys2Proof.Laws

/-! ## Executing a word -/

/-- R101: a word that decodes runs its command. -/
theorem executeWord_of_ok {w : Word} {i : Instr} (h : decodeWord w = .ok i) (s : State) :
    executeWord w s = exec i s := by
  simp [executeWord, h]

/-- R86, R87, R103: a word that is no command raises BAD_OPCODE, and changes nothing else. -/
theorem executeWord_of_error {w : Word} {r : Reject} (h : decodeWord w = .error r) (s : State) :
    executeWord w s = .next { s with err := .badOpcode } := by
  simp [executeWord, h, State.raise, State.setErr]

/-- R191: the twelve codes from 4 up are undefined. -/
theorem triggerOf_undefined {tcmd : BitVec 4} (h : 4 ≤ tcmd.toNat) : triggerOf tcmd = none := by
  revert tcmd
  decide

/-- R87, R192: an undefined TCMD raises INVALID_COMMAND, in every state of the stream. -/
theorem execDmaTrigger_undefined {tcmd : BitVec 4} (h : 4 ≤ tcmd.toNat) (s : State) :
    execDmaTrigger tcmd s = .next { s with err := .invalidCommand } := by
  simp [execDmaTrigger, triggerOf_undefined h, State.raise, State.setErr]

/-- R87: a word in whose format `bits` are reserved, and not 0, raises BAD_OPCODE. -/
theorem executeWord_of_reserved {n : Nat} {w : Word} {bits : BitVec n} {i : Instr}
    (hd : decodeWord w = checkReserved bits i) (h : bits.toNat ≠ 0) (s : State) :
    executeWord w s = .next { s with err := .badOpcode } :=
  executeWord_of_error (hd.trans (checkReserved_of_ne_zero i h)) s

/-- Settles O5: such a word does not decode. -/
theorem reservedOpcodesRaiseBadOpcode : Obligations.ReservedOpcodesRaiseBadOpcode := fun _ s h =>
  executeWord_of_error (decodeWord_reservedOpcode h) s

/-- Settles O6, by the format of each OP: the reserved bits of the format, or LEN, make the decoder reject the word. -/
theorem reservedEncodingsRaiseBadOpcode : Obligations.ReservedEncodingsRaiseBadOpcode := by
  intro w s
  refine ⟨?_, fun h => ⟨decodeWord_dmaTrigger_of_reserved_zero h, fun htcmd => ?_⟩⟩
  · rintro (⟨hop, hr⟩ | ⟨hop, hr⟩ | ⟨hop, hr⟩ | ⟨hop, hr⟩ | ⟨hop, hr⟩ | ⟨hop, hr⟩)
    · obtain ⟨i, hd⟩ := decodeWord_fieldless hop
      exact executeWord_of_reserved hd (by rw [extract_toNat]; simpa using hr) s
    · exact executeWord_of_reserved (decodeWord_writeReg hop) (by rwa [extract_toNat]) s
    · refine executeWord_of_reserved (decodeWord_readReg hop) ?_ s
      rw [append_toNat, extract_toNat, extract_toNat]
      omega
    · obtain ⟨r, hd⟩ := decodeWord_xmit_rejects hop hr
      exact executeWord_of_error hd s
    · exact executeWord_of_reserved (decodeWord_dmaHwParams hop) (by rwa [extract_toNat]) s
    · exact executeWord_of_reserved (decodeWord_dmaTrigger hop) (by rwa [extract_toNat]) s
  · rw [executeWord_of_ok (decodeWord_dmaTrigger_of_reserved_zero h)]
    exact execDmaTrigger_undefined (by rw [extract_toNat]; simpa using htcmd) s

/-- Settles O4: the seven encodings by evaluation, the words that raise an error by O5 and O6. -/
theorem exampleWordsDecode : Obligations.ExampleWordsDecode := by
  refine ⟨fun i w hmem => ?_, fun s => ?_, fun s w hmem => ?_⟩
  · simp only [List.mem_cons, Prod.mk.injEq, List.not_mem_nil, or_false] at hmem
    obtain ⟨rfl, rfl⟩ | ⟨rfl, rfl⟩ | ⟨rfl, rfl⟩ | ⟨rfl, rfl⟩ | ⟨rfl, rfl⟩ | ⟨rfl, rfl⟩ | ⟨rfl, rfl⟩ := hmem <;> decide
  · obtain ⟨-, htrigger⟩ := reservedEncodingsRaiseBadOpcode 0x90000007 s
    obtain ⟨-, hundefined⟩ := htrigger (by decide)
    exact hundefined (by decide)
  · simp only [List.mem_cons, List.not_mem_nil, or_false] at hmem
    obtain rfl | rfl | rfl := hmem
    · exact (reservedEncodingsRaiseBadOpcode 0x33000000 s).1 (by decide)
    · exact (reservedEncodingsRaiseBadOpcode 0x20340001 s).1 (by decide)
    · exact reservedOpcodesRaiseBadOpcode 0xC0000000 s (by decide)

end Sys2Proof.Machine
end

section
/-! PROOF. The command port (40_command_port.md): how a command can end, NOP's effect (R107), and what an error leaves unchanged
(R103). -/

namespace Sys2Proof.Machine

open Sys2Proof.Laws

/-! ## How a command can end -/

/-- How the command `i`, run from `s`, can end in `t`. -/
inductive CommandEnd (i : Instr) (s t : State) : Prop where
  /-- R106: without error. -/
  | completed (h : t.err = .ok)
  /-- R103, R221: refused. A term that has no word raises BAD_OPCODE (log 17), which R221 does not list. -/
  | raised (e : ErrCode) (he : i.wellFormed = true → e ∈ raisableErrors i) (h : t = { s with err := e })
  /-- R145: with a frame cut short by the link. -/
  | linkFailed (hi : .linkError ∈ raisableErrors i) (h : t.err = .linkError)

/-- R129: a raw transmission, complete or short, is no error. -/
@[simp] theorem State.sendRaw_err (s : State) (vs : List Byte) : (s.sendRaw vs).err = .ok := by
  rw [State.sendRaw_eq]

/-- R145: the two outcomes of a register write on a valid address. -/
theorem State.writeThrough_err (s : State) (a : Byte) (v : Half) :
    (s.writeThrough a v).err = .ok ∨ (s.writeThrough a v).err = .linkError := by
  by_cases h : acceptedBytes 2 s.linkFaultAt = 2
  · exact .inl (by rw [State.writeThrough_full s a v h])
  · exact .inr (by rw [State.writeThrough_short s a v h])

section
variable {s t : State}

theorem execNop_end (h : execNop s = .next t) : CommandEnd .nop s t := by
  obtain rfl := Host.Outcome.next.inj h
  exact .completed rfl

theorem execWriteReg_end {a : Byte} {v : Half} (h : execWriteReg a v s = .next t) :
    CommandEnd (.writeReg a v) s t := by
  obtain rfl := Host.Outcome.next.inj h
  split
  · obtain hok | hlink := s.writeThrough_err a v
    · exact .completed hok
    · exact .linkFailed (by simp [raisableErrors]) hlink
  · exact .raised .outOfRange (by simp [raisableErrors]) rfl

theorem execReadReg_end {a : Byte} (h : execReadReg a s = .next t) : CommandEnd (.readReg a) s t := by
  obtain rfl := Host.Outcome.next.inj h
  split
  · exact .completed rfl
  · exact .raised .outOfRange (by simp [raisableErrors]) rfl

theorem execXmit_end {len : BitVec 2} {b0 b1 b2 : Byte} (h : execXmit len b0 b1 b2 s = .next t) :
    CommandEnd (.xmit len b0 b1 b2) s t := by
  obtain rfl := Host.Outcome.next.inj h
  split
  · next hlen => exact .raised .badOpcode (by simp [Instr.wellFormed, hlen]) rfl
  · exact .completed (s.sendRaw_err _)

theorem execPllCalc_end (h : execPllCalc s = .next t) : CommandEnd .pllCalc s t := by
  obtain rfl := Host.Outcome.next.inj h
  split
  · exact .raised .invalidFrequency (by simp [raisableErrors]) rfl
  · exact .completed rfl

theorem execDmaOpen_end (h : execDmaOpen s = .next t) : CommandEnd .dmaOpen s t := by
  obtain rfl := Host.Outcome.next.inj h
  split
  · exact .raised .openFailed (by simp [raisableErrors]) rfl
  · exact .completed rfl

theorem execDmaClose_end (h : execDmaClose s = .next t) : CommandEnd .dmaClose s t := by
  obtain rfl := Host.Outcome.next.inj h
  split
  · exact .raised .invalidState (by simp [raisableErrors]) rfl
  · exact .completed rfl

theorem execDmaHwParams_end {fb : Byte} (h : execDmaHwParams fb s = .next t) : CommandEnd (.dmaHwParams fb) s t := by
  obtain rfl := Host.Outcome.next.inj h
  split
  · exact .raised .invalidState (by simp [raisableErrors]) rfl
  · split
    · exact .completed rfl
    · exact .raised .configMismatch (by simp [raisableErrors]) rfl

theorem execDmaPrepare_end (h : execDmaPrepare s = .next t) : CommandEnd .dmaPrepare s t := by
  obtain rfl := Host.Outcome.next.inj h
  split
  · exact .raised .invalidState (by simp [raisableErrors]) rfl
  · exact .completed rfl

theorem execDmaTrigger_end {tcmd : BitVec 4} (h : execDmaTrigger tcmd s = .next t) :
    CommandEnd (.dmaTrigger tcmd) s t := by
  obtain rfl := Host.Outcome.next.inj h
  split
  · exact .raised .invalidCommand (by simp [raisableErrors]) rfl
  · split
    · exact .raised .invalidState (by simp [raisableErrors]) rfl
    · exact .completed rfl

theorem execDmaPointer_end (h : execDmaPointer s = .next t) : CommandEnd .dmaPointer s t := by
  obtain rfl := Host.Outcome.next.inj h
  split
  · exact .raised .invalidState (by simp [raisableErrors]) rfl
  · exact .completed rfl

theorem execPeriodAck_end (h : execPeriodAck s = .next t) : CommandEnd .periodAck s t := by
  obtain rfl := Host.Outcome.next.inj h
  split
  · exact .completed rfl
  · exact .raised .invalidState (by simp [raisableErrors]) rfl

/-- R103, R106, R221: how a command can end. -/
theorem exec_end {i : Instr} (h : exec i s = .next t) : CommandEnd i s t := by
  cases i with
  | nop => exact execNop_end h
  | writeReg addr value => exact execWriteReg_end h
  | readReg addr => exact execReadReg_end h
  | xmit len b0 b1 b2 => exact execXmit_end h
  | pllCalc => exact execPllCalc_end h
  | dmaOpen => exact execDmaOpen_end h
  | dmaClose => exact execDmaClose_end h
  | dmaHwParams fb => exact execDmaHwParams_end h
  | dmaPrepare => exact execDmaPrepare_end h
  | dmaTrigger tcmd => exact execDmaTrigger_end h
  | dmaPointer => exact execDmaPointer_end h
  | periodAck => exact execPeriodAck_end h

/-- R103: an end with an error other than LINK_ERROR is a refusal. -/
theorem CommandEnd.eq_of_error {i : Instr} (h : CommandEnd i s t) (hok : t.err ≠ .ok) (hlink : t.err ≠ .linkError) :
    t = { s with err := t.err } := by
  cases h with
  | completed he => exact absurd he hok
  | raised e _ ht => rw [ht]
  | linkFailed _ he => exact absurd he hlink

end

/-- Settles O19, by how a command can end; a word that is no command raises BAD_OPCODE in the state as it was. -/
theorem errorsChangeOnlyErr : Obligations.ErrorsChangeOnlyErr := by
  refine ⟨fun i s t h => (exec_end h).eq_of_error, fun w s t h => ?_⟩
  obtain ⟨i, -, hx⟩ | ⟨r, -, hx⟩ := executeWord_cases w s
  · exact (exec_end (hx ▸ h)).eq_of_error
  · obtain rfl := Host.Outcome.next.inj (hx.symm.trans h)
    exact fun _ _ => rfl

/-- R107: the word of NOP. -/
theorem decodeWord_zero : decodeWord 0x00000000 = .ok .nop := by decide

/-- Settles O18: NOP's word by decoding it, the other words with OP = 0 by O6. -/
theorem nopOnlySetsErrOk : Obligations.NopOnlySetsErrOk := by
  refine fun s => ⟨rfl, executeWord_of_ok decodeWord_zero s, fun w hop hbits => ?_⟩
  obtain ⟨hreserved, -⟩ := reservedEncodingsRaiseBadOpcode w s
  exact hreserved (.inl ⟨List.mem_cons.mpr (.inl hop), hbits⟩)

end Sys2Proof.Machine
end

section
/-! PROOF. The serial transmitter (41_serial_link.md): a transfer as a sequence of bit cells, how long it takes (R130), its
waveform (R131), its end when complete (R125) and when cut short (R127). -/

namespace Sys2Proof.Machine

/-! ## Observing a concatenation -/

/-- R130: what follows takes its own time. -/
theorem duration_append (os os2 : List Output) : duration (os ++ os2) = duration os + duration os2 := by
  induction os with
  | nil => simp [duration]
  | cons o os ih => cases o <;> simp [duration, ih, Nat.add_assoc]

/-- What follows is driven later by what went before. -/
theorem timedDrives_append (now : Nat) (os os2 : List Output) :
    timedDrives now (os ++ os2) = timedDrives now os ++ timedDrives (now + duration os) os2 := by
  induction os generalizing now with
  | nil => rfl
  | cons o os ih => cases o <;> simp [timedDrives, duration, ih, Nat.add_assoc]

/-- R131: what follows is sampled from the levels that went before left. -/
theorem sampledBits_append (l : Lines) (os os2 : List Output) :
    sampledBits l.clk l.dat (os ++ os2) =
      sampledBits l.clk l.dat os ++ sampledBits (l.after os).clk (l.after os).dat os2 := by
  induction os generalizing l with
  | nil => rfl
  | cons o os ih =>
    cases o with
    | drive n b =>
      cases n with
      | clk =>
        have ih' := ih (l.drive .clk b)
        simp only [Lines.drive_clk] at ih'
        simp only [List.cons_append, sampledBits, Lines.after, Lines.drive_clk, ih']
        split <;> rfl
      | dat => exact ih (l.drive .dat b)
      | mode => exact ih (l.drive .mode b)
    | wait n => exact ih l
    | dma op => exact ih l
    | notify => exact ih l
    | reset => exact ih .atReset

/-! ## Waits -/

/-- R121: the wait of a timing register, on naturals. -/
theorem registerWait_eq (x : Half) : registerWait x = max 1 x.toNat := by
  simp only [registerWait, waitLength]
  omega

/-- R125: the settle time, written out. -/
theorem settleWait_eq (t : Timing) :
    settleWait t = (max 1 ((t.mh.toNat : Int) + t.ms.toNat - t.dh.toNat)).toNat := rfl

/-- R123: the length of a bit cell. -/
def cellLength (t : Timing) : Nat := registerWait t.dh + registerWait t.ds + registerWait t.ch

/-- R124: when bit cell `k` of a transfer starts. -/
def cellStart (t : Timing) (k : Nat) : Nat := registerWait t.ms + k * cellLength t

/-- Bit cells that are `d` apart start `d` cells apart. -/
theorem cellStart_add (t : Timing) (k d : Nat) : cellStart t (k + d) = cellStart t k + d * cellLength t := by
  simp only [cellStart, Nat.add_mul, Nat.add_assoc]

/-! ## The bits of a transfer -/

/-- R122: the bits of the first `a` bytes, in the order they are sent. -/
def sentBits (vs : List Byte) (a : Nat) : List Bool := (vs.take a).flatMap bitsMsbFirst

/-- R122: bit `k` of the bytes `vs`, each sent from its bit 7 down. -/
def sentBit (vs : List Byte) (k : Nat) : Bool := (vs.getD (k / 8) 0).getLsbD (7 - k % 8)

theorem sentBits_zero (vs : List Byte) : sentBits vs 0 = [] := by simp [sentBits]

/-- R122: one byte more is eight bits more. -/
theorem sentBits_succ (vs : List Byte) {a : Nat} (h : a < vs.length) :
    sentBits vs (a + 1) = sentBits vs a ++ bitsMsbFirst (vs.getD a 0) := by
  rw [sentBits, List.take_add_one, List.getElem?_eq_getElem h, List.flatMap_append, List.getD_eq_getElem _ _ h]
  simp only [Option.toList_some, List.flatMap_singleton, sentBits]

/-- R122: the eight bits of byte `a` are the bits `8a` to `8a + 7`. -/
theorem bitsMsbFirst_eq_map_sentBit (vs : List Byte) (a : Nat) :
    bitsMsbFirst (vs.getD a 0) = (List.range 8).map (fun j => sentBit vs (8 * a + j)) := by
  have hbit : ∀ j < 8, sentBit vs (8 * a + j) = (vs.getD a 0).getLsbD (7 - j) := fun j hj => by
    rw [sentBit, show (8 * a + j) / 8 = a by omega, show (8 * a + j) % 8 = j by omega]
  rw [List.map_congr_left fun j hj => hbit j (List.mem_range.mp hj)]
  rfl

/-- R131: the bits sent, by their numbers. -/
theorem sentBits_eq_map (vs : List Byte) {a : Nat} (h : a ≤ vs.length) :
    sentBits vs a = (List.range (8 * a)).map (sentBit vs) := by
  induction a with
  | zero => exact sentBits_zero vs
  | succ a ih =>
    rw [sentBits_succ vs h, ih (Nat.le_of_lt h), bitsMsbFirst_eq_map_sentBit, Nat.mul_succ, List.range_add,
      List.map_append, List.map_map]
    rfl

theorem length_sentBits (vs : List Byte) {a : Nat} (h : a ≤ vs.length) : (sentBits vs a).length = 8 * a := by
  simp [sentBits_eq_map vs h]

/-! ## A sequence of bit cells -/

/-- R123: the line events of a sequence of bits. -/
def bitCells (t : Timing) (bits : List Bool) : List Output := bits.flatMap (sendBit t)

theorem bitCells_append (t : Timing) (bits bits2 : List Bool) :
    bitCells t (bits ++ bits2) = bitCells t bits ++ bitCells t bits2 := List.flatMap_append

/-- R123: every bit cell lasts equally long. -/
theorem duration_bitCells (t : Timing) (bits : List Bool) :
    duration (bitCells t bits) = bits.length * cellLength t := by
  induction bits with
  | nil => simp [bitCells, duration]
  | cons b bits ih =>
    have hcell : duration (sendBit t b) = cellLength t := by simp [sendBit, duration, cellLength, Nat.add_assoc]
    rw [bitCells, List.flatMap_cons, duration_append, hcell, ← bitCells, ih, List.length_cons, Nat.succ_mul, Nat.add_comm]

/-- R131: the codec samples exactly the bits sent. -/
theorem sampledBits_bitCells (clk dat : Bool) (t : Timing) (bits : List Bool) :
    sampledBits clk dat (bitCells t bits) = bits := by
  induction bits generalizing clk dat with
  | nil => rfl
  | cons b bits ih => cases clk <;> exact congrArg (b :: ·) (ih true b)

/-- R127: after a sequence of bits CLK is high and DAT at the last; no bits leave both as they were. -/
theorem Lines.after_bitCells (l : Lines) (t : Timing) (bits : List Bool) :
    l.after (bitCells t bits) = ⟨if bits = [] then l.clk else true, bits.getLastD l.dat, l.mode⟩ := by
  induction bits generalizing l with
  | nil => rfl
  | cons b bits ih =>
    rw [bitCells, List.flatMap_cons, Lines.after_append, Lines.after_sendBit, ← bitCells, ih, List.getLastD_cons]
    simp only [ite_self, reduceCtorEq, if_false]

/-- R123: a bit cell drives CLK and DAT only. -/
theorem mode_not_mem_bitCells (t : Timing) (bits : List Bool) (b : Bool) : .drive .mode b ∉ bitCells t bits := by
  simp [bitCells, sendBit]

/-- R123: the Drive events of a bit cell that starts at `start`. -/
def cellDrives (t : Timing) (start : Nat) (b : Bool) : List (Nat × Line × Bool) :=
  [(start, .clk, false), (start + registerWait t.dh, .dat, b),
   (start + registerWait t.dh + registerWait t.ds, .clk, true)]

theorem timedDrives_sendBit (t : Timing) (now : Nat) (b : Bool) :
    timedDrives now (sendBit t b) = cellDrives t now b := rfl

/-- R131: the Drive events of the first `n` bit cells of a transfer. -/
theorem timedDrives_bitCells (t : Timing) (bit : Nat → Bool) (n : Nat) :
    timedDrives (registerWait t.ms) (bitCells t ((List.range n).map bit)) =
      (List.range n).flatMap (fun k => cellDrives t (cellStart t k) (bit k)) := by
  induction n with
  | zero => rfl
  | succ n ih =>
    have hlast : bitCells t [bit n] = sendBit t (bit n) := List.flatMap_singleton ..
    rw [List.range_succ, List.map_append, bitCells_append, timedDrives_append, ih, duration_bitCells, List.map_singleton,
      hlast, timedDrives_sendBit, List.flatMap_append, List.flatMap_singleton]
    simp [cellStart]

/-! ## A transfer -/

/-- R124: what follows the last accepted byte of a transfer of `n`: the settle pulse, if all are accepted. -/
def transferEnd (t : Timing) (n a : Nat) : List Output := if a = n then endPulse t else []

/-- R124: a transfer raises MODE, sends its bits, and ends. -/
theorem transferEvents_eq (t : Timing) (vs : List Byte) (a : Nat) :
    transferEvents t vs a =
      [.drive .mode true, .wait (registerWait t.ms)] ++ bitCells t (sentBits vs a) ++ transferEnd t vs.length a := by
  have hbytes : (vs.take a).flatMap (sendByte t) = bitCells t (sentBits vs a) := List.flatMap_assoc.symm
  rw [transferEvents, hbytes, transferEnd]

theorem duration_transferEnd (t : Timing) (n a : Nat) :
    duration (transferEnd t n a) = if a = n then settleWait t else 0 := by
  unfold transferEnd
  split <;> rfl

/-- R125: the settle pulse has no CLK edge. -/
theorem sampledBits_transferEnd (clk dat : Bool) (t : Timing) (n a : Nat) :
    sampledBits clk dat (transferEnd t n a) = [] := by
  unfold transferEnd
  split <;> rfl

/-- R131: from any levels, the codec samples the bits of the accepted bytes. -/
theorem sampledBits_transferEvents (clk dat : Bool) (t : Timing) (vs : List Byte) (a : Nat) :
    sampledBits clk dat (transferEvents t vs a) = sentBits vs a := by
  have happ := sampledBits_append ⟨clk, dat, true⟩ (bitCells t (sentBits vs a)) (transferEnd t vs.length a)
  rw [sampledBits_bitCells, sampledBits_transferEnd, List.append_nil] at happ
  rw [transferEvents_eq]
  exact happ

/-- R131: the Drive events of a transfer, with their times. -/
def transferDrives (t : Timing) (vs : List Byte) (a : Nat) : List (Nat × Line × Bool) :=
  [(0, .mode, true)] ++
    (List.range (8 * a)).flatMap (fun k => cellDrives t (cellStart t k) (sentBit vs k)) ++
    (if a = vs.length then
      [(cellStart t (8 * a), .mode, false), (cellStart t (8 * a) + settleWait t, .mode, true)]
     else [])

theorem timedDrives_transferEnd (t : Timing) (now n a : Nat) :
    timedDrives now (transferEnd t n a) =
      if a = n then [(now, .mode, false), (now + settleWait t, .mode, true)] else [] := by
  unfold transferEnd
  split <;> rfl

theorem timedDrives_transferEvents (t : Timing) (vs : List Byte) {a : Nat} (h : a ≤ vs.length) :
    timedDrives 0 (transferEvents t vs a) = transferDrives t vs a := by
  have hstart (os : List Output) : timedDrives 0 ([.drive .mode true, .wait (registerWait t.ms)] ++ os) =
      (0, .mode, true) :: timedDrives (registerWait t.ms) os := by simp [timedDrives]
  rw [transferEvents_eq, List.append_assoc, hstart, timedDrives_append, duration_bitCells, length_sentBits vs h,
    sentBits_eq_map vs h, timedDrives_bitCells, timedDrives_transferEnd]
  rfl

/-! ## Setup and hold -/

/-- R131: CLK rises in a transfer once in each bit cell. -/
theorem clk_rise_mem_transferDrives (t : Timing) (vs : List Byte) (a u : Nat) :
    (u, .clk, true) ∈ transferDrives t vs a ↔
      ∃ k < 8 * a, u = cellStart t k + registerWait t.dh + registerWait t.ds := by
  simp only [transferDrives, cellDrives]
  split <;> simp

/-- R131: DAT is driven in a transfer once in each bit cell, to its bit. -/
theorem dat_mem_transferDrives (t : Timing) (vs : List Byte) (a u : Nat) (b : Bool) :
    (u, .dat, b) ∈ transferDrives t vs a ↔
      ∃ k < 8 * a, u = cellStart t k + registerWait t.dh ∧ b = sentBit vs k := by
  simp only [transferDrives, cellDrives]
  split <;> simp

/-- Of two bit cells, one starts no later than the other, or a whole cell after it. -/
theorem cellStart_le_or_after (t : Timing) (j k : Nat) :
    cellStart t j ≤ cellStart t k ∨ cellStart t k + cellLength t ≤ cellStart t j := by
  obtain h | h := Nat.lt_or_ge k j
  · obtain ⟨d, rfl⟩ := Nat.exists_eq_add_of_lt h
    right
    rw [Nat.add_assoc, cellStart_add, Nat.succ_mul]
    omega
  · obtain ⟨d, rfl⟩ := Nat.exists_eq_add_of_le h
    left
    rw [cellStart_add]
    omega

/-- R131: DAT is driven W(T_DS) before each rising edge, and not again until W(T_CH) + W(T_DH) after it. -/
theorem transferDrives_setup_hold (t : Timing) (vs : List Byte) (a rise : Nat)
    (h : (rise, .clk, true) ∈ transferDrives t vs a) :
    (∃ b, (rise - registerWait t.ds, .dat, b) ∈ transferDrives t vs a) ∧
      ∀ u b, (u, .dat, b) ∈ transferDrives t vs a →
        u ≤ rise - registerWait t.ds ∨ rise + registerWait t.ch + registerWait t.dh ≤ u := by
  obtain ⟨k, hk, rfl⟩ := (clk_rise_mem_transferDrives t vs a rise).mp h
  refine ⟨⟨sentBit vs k, (dat_mem_transferDrives ..).mpr ⟨k, hk, by omega, rfl⟩⟩, fun u b hu => ?_⟩
  obtain ⟨j, -, rfl, -⟩ := (dat_mem_transferDrives t vs a u b).mp hu
  have hcell : cellLength t = registerWait t.dh + registerWait t.ds + registerWait t.ch := rfl
  obtain hj | hj := cellStart_le_or_after t j k
  · left; omega
  · right; omega

/-! ## The end of a transfer -/

/-- R124: MODE does not fall up to the end of the last bit of a transfer. -/
theorem mode_low_not_mem_start_append_bitCells (t : Timing) (bits : List Bool) :
    .drive .mode false ∉ [.drive .mode true, .wait (registerWait t.ms)] ++ bitCells t bits := by
  simp [mode_not_mem_bitCells]

/-- R127: a short transfer ends with its last bit. -/
theorem transferEvents_short (t : Timing) (vs : List Byte) {k : Nat} (h : k < vs.length) :
    transferEvents t vs k = [.drive .mode true, .wait (registerWait t.ms)] ++ bitCells t (sentBits vs k) := by
  rw [transferEvents_eq, transferEnd, if_neg (Nat.ne_of_lt h), List.append_nil]

/-- R127: the lines after a short transfer. -/
theorem Lines.after_transferEvents_short (l : Lines) (t : Timing) (vs : List Byte) {k : Nat} (h : k < vs.length) :
    l.after (transferEvents t vs k) =
      { clk := if k = 0 then l.clk else true, dat := (sentBits vs k).getLastD l.dat, mode := true } := by
  have hempty : sentBits vs k = [] ↔ k = 0 := by
    rw [← List.length_eq_zero_iff, length_sentBits vs (Nat.le_of_lt h)]
    omega
  rw [transferEvents_short t vs h, Lines.after_append, Lines.after_bitCells]
  simp only [hempty]
  rfl

/-! ## The claims -/

/-- Settles O24: the bits by their numbers, and the waveform as the sequence of the bit cells' events. -/
theorem transferSamplesBytesMsbFirst : Obligations.TransferSamplesBytesMsbFirst := by
  intro t vs a clk dat ha hold setup high cell bit events
  have hhold : hold = registerWait t.dh := (registerWait_eq _).symm
  have hsetup : setup = registerWait t.ds := (registerWait_eq _).symm
  have hhigh : high = registerWait t.ch := (registerWait_eq _).symm
  have hcell : cell = cellStart t := by
    funext k
    simp only [cell, cellStart, cellLength, hhold, hsetup, hhigh, registerWait_eq t.ms]
  have hevents : events = transferDrives t vs a := timedDrives_transferEvents t vs ha
  rw [sampledBits_transferEvents, hevents, hhold, hsetup, hhigh, hcell]
  refine ⟨length_sentBits vs ha, fun k hk => ?_, rfl, transferDrives_setup_hold t vs a⟩
  rw [sentBits_eq_map vs ha, List.getElem?_map, List.getElem?_range hk]
  rfl

/-- Settles O23, by the three parts of a transfer. -/
theorem transferDuration : Obligations.TransferDuration := by
  intro t vs a ha
  have hstart : duration [.drive .mode true, .wait (registerWait t.ms)] = registerWait t.ms := rfl
  rw [transferEvents_eq, duration_append, duration_append, hstart, duration_bitCells, length_sentBits vs ha,
    duration_transferEnd, cellLength]
  simp only [registerWait_eq, settleWait_eq]

/-- Settles O25: the part before the pulse has no MODE low. -/
theorem settlePulseEndsCompleteTransfer : Obligations.SettlePulseEndsCompleteTransfer := by
  intro t vs
  refine ⟨settleWait t, ⟨_, ?_, mode_low_not_mem_start_append_bitCells t (sentBits vs vs.length)⟩, rfl, fun h => ?_⟩
  · rw [transferEvents_eq, transferEnd, if_pos rfl, endPulse]
  · rw [settleWait_eq]
    omega

/-- Settles O26: the transfer is cut at the boundary `k`, where MODE is high and no pulse follows. -/
theorem shortTransferLeavesNoPulse : Obligations.ShortTransferLeavesNoPulse := by
  intro vs k s hfault hk
  have haccepted : acceptedBytes vs.length s.linkFaultAt = k := by
    rw [hfault]
    exact Nat.min_eq_left (Nat.le_of_lt hk)
  have htransmit := s.transmit_eq vs
  rw [haccepted] at htransmit
  refine ⟨_, transferEvents s.timing vs k, htransmit, rfl, ?_, ?_, ?_, ?_⟩
  · rw [transferEvents_short _ _ hk]
    exact mode_low_not_mem_start_append_bitCells s.timing (sentBits vs k)
  · exact sampledBits_transferEvents ..
  · rw [sampledBits_transferEvents, length_sentBits vs (Nat.le_of_lt hk)]
  · rw [sampledBits_transferEvents]
    exact s.lines.after_transferEvents_short s.timing vs hk

end Sys2Proof.Machine
end

section
/-! PROOF. The register shadow (42_shadow_registers.md): the range of its addresses (R144), what READ_REG returns (R147, R148,
R150), and the bits of a control frame (R143). -/

namespace Sys2Proof.Machine

section
variable {s : State} {a : Byte} {v : Half}

/-! ## The two commands -/

/-- R144: an address in the range. -/
theorem validAddr_eq_true {p : Params} (h : a.toNat < p.regCount) : validAddr p a = true := decide_eq_true h

/-- R144: an address beyond the range. -/
theorem validAddr_eq_false {p : Params} (h : p.regCount ≤ a.toNat) : validAddr p a = false :=
  decide_eq_false (Nat.not_lt.mpr h)

/-- R145: WRITE_REG on a valid address. -/
theorem exec_writeReg_valid (v : Half) (h : a.toNat < s.params.regCount) :
    exec (.writeReg a v) s = .next (s.writeThrough a v) := by
  rw [exec, execWriteReg, validAddr_eq_true h, if_pos rfl]

/-- R144: WRITE_REG refuses any other address. -/
theorem exec_writeReg_outOfRange (v : Half) (h : s.params.regCount ≤ a.toNat) :
    exec (.writeReg a v) s = .next { s with err := .outOfRange } := by
  simp only [exec, execWriteReg, validAddr_eq_false h, Bool.false_eq_true, if_false]
  rfl

/-- R147: READ_REG on a valid address. -/
theorem exec_readReg_valid (h : a.toNat < s.params.regCount) :
    exec (.readReg a) s = .next { s with result0 := (s.shadowRead a).setWidth 32, err := .ok } := by
  rw [exec, execReadReg, validAddr_eq_true h, if_pos rfl]
  rfl

/-- R144: READ_REG refuses any other address. -/
theorem exec_readReg_outOfRange (h : s.params.regCount ≤ a.toNat) :
    exec (.readReg a) s = .next { s with err := .outOfRange } := by
  simp only [exec, execReadReg, validAddr_eq_false h, Bool.false_eq_true, if_false]
  rfl

/-! ## Reading an entry -/

/-- R147, R148: what an entry reads as, zero-extended. -/
theorem State.setWidth_shadowRead (h : s.shadow[a.toNat]? = some v) :
    (s.shadowRead a).setWidth 32 = if a.toNat = s.params.regReset then 0 else BitVec.ofNat 32 v.toNat := by
  have hentry : s.shadowAt a.toNat = v := by rw [State.shadowAt, List.getD_eq_getElem?_getD, h, Option.getD_some]
  rw [State.shadowRead, hentry]
  split
  · rfl
  · exact (BitVec.ofNat_toNat 32 v).symm

/-- R147, R148: READ_REG of an entry that holds `v`. -/
theorem exec_readReg_of_entry (ha : a.toNat < s.params.regCount) (h : s.shadow[a.toNat]? = some v) :
    exec (.readReg a) s =
      .next { s with
        result0 := if a.toNat = s.params.regReset then 0 else BitVec.ofNat 32 v.toNat
        err := .ok } := by
  rw [exec_readReg_valid ha, State.setWidth_shadowRead h]

/-! ## Writing an entry -/

/-- R126: all bytes are accepted when the link's draw has no boundary below their number. -/
theorem acceptedBytes_eq_of_le {n : Nat} {f : Option Nat} (h : ∀ k, f = some k → n ≤ k) : acceptedBytes n f = n := by
  cases f with
  | none => rfl
  | some k => exact Nat.min_eq_right (h k rfl)

/-- R145: a register write that ends without error sent its whole frame. -/
theorem State.acceptedBytes_of_writeThrough_ok (h : (s.writeThrough a v).err = .ok) :
    acceptedBytes 2 s.linkFaultAt = 2 := by
  by_contra hshort
  rw [State.writeThrough_short s a v hshort] at h
  cases h

/-- R145: WRITE_REG ends without error only on a valid address, and leaves the value in its entry. -/
theorem shadow_of_exec_writeReg_ok {t : State} (h : exec (.writeReg a v) s = .next t) (hok : t.err = .ok) :
    a.toNat < s.params.regCount ∧ t.params = s.params ∧ t.shadow = s.shadow.set a.toNat v := by
  obtain ha | ha := Nat.lt_or_ge a.toNat s.params.regCount
  · obtain rfl := Host.Outcome.next.inj ((exec_writeReg_valid v ha).symm.trans h)
    rw [State.writeThrough_full s a v (State.acceptedBytes_of_writeThrough_ok hok)]
    exact ⟨ha, rfl, rfl⟩
  · obtain rfl := Host.Outcome.next.inj ((exec_writeReg_outOfRange v ha).symm.trans h)
    cases hok

/-! ## The bits of a frame -/

/-- R142: the quirk registers, as a proposition. -/
theorem isQuirk_eq_decide (p : Params) (a : Byte) :
    isQuirk p a = decide (a.toNat = p.quirkHPL ∨ a.toNat = p.quirkHPR) := by
  rw [isQuirk, Bool.decide_or]
  rfl

/-- R141: bit 0 of byte0. -/
theorem frameByte0_getLsbD_zero (p : Params) (a : Byte) (v : Half) :
    (frameByte0 p a v).getLsbD 0 = (isQuirk p a || v.getLsbD 8) := by
  cases h : isQuirk p a <;> simp [frameByte0, h]

/-- R141: the bits of byte0 above bit 0. -/
theorem frameByte0_getLsbD_succ (p : Params) (a : Byte) (v : Half) {k : Nat} (h : k < 7) :
    (frameByte0 p a v).getLsbD (k + 1) = a.getLsbD k := by
  have hk : k + 1 < 8 := by omega
  cases hq : isQuirk p a <;> simp [frameByte0, hq, hk, BitVec.getLsbD_eq_getElem (Nat.lt_succ_of_lt h)]

/-- R141, R122: byte0 on the line. -/
theorem bitsMsbFirst_frameByte0 (p : Params) (a : Byte) (v : Half) :
    bitsMsbFirst (frameByte0 p a v) = [6, 5, 4, 3, 2, 1, 0].map a.getLsbD ++ [isQuirk p a || v.getLsbD 8] := by
  have hbits : bitsMsbFirst (frameByte0 p a v) =
      ([6, 5, 4, 3, 2, 1, 0].map fun k => (frameByte0 p a v).getLsbD (k + 1)) ++ [(frameByte0 p a v).getLsbD 0] := rfl
  have hrange : ∀ k ∈ [6, 5, 4, 3, 2, 1, 0], k < 7 := by decide
  rw [hbits, frameByte0_getLsbD_zero, List.map_congr_left fun k hk => frameByte0_getLsbD_succ p a v (hrange k hk)]

/-- R141, R122: byte1 on the line. -/
theorem bitsMsbFirst_frameByte1 (v : Half) : bitsMsbFirst (frameByte1 v) = [7, 6, 5, 4, 3, 2, 1, 0].map v.getLsbD := by
  simp [bitsMsbFirst, frameByte1]

/-- R143: the sixteen bits of a frame. -/
theorem sentBits_frame (p : Params) (a : Byte) (v : Half) :
    sentBits (frame p a v) 2 =
      [6, 5, 4, 3, 2, 1, 0].map a.getLsbD ++ [isQuirk p a || v.getLsbD 8] ++ [7, 6, 5, 4, 3, 2, 1, 0].map v.getLsbD := by
  have hbytes : sentBits (frame p a v) 2 = bitsMsbFirst (frameByte0 p a v) ++ bitsMsbFirst (frameByte1 v) := by
    simp [sentBits, frame]
  rw [hbytes, bitsMsbFirst_frameByte0, bitsMsbFirst_frameByte1]

end

/-! ## The claims -/

/-- Settles O34: the codec samples the bits sent (R131), which are the bits of the frame's two bytes. -/
theorem codecReceivesSixteenBits : Obligations.CodecReceivesSixteenBits := by
  intro a v s _ ha hlink
  have hfull := State.writeThrough_full s a v (acceptedBytes_eq_of_le hlink)
  refine ⟨_, transferEvents s.timing (frame s.params a v) 2, exec_writeReg_valid v ha, by rw [hfull], ?_⟩
  rw [sampledBits_transferEvents, sentBits_frame, isQuirk_eq_decide]

/-- Settles O33: a write without error left the value in its entry, whose length the shadow keeps. -/
theorem readAfterWrite : Obligations.ReadAfterWrite := by
  intro a v s t u hsized hwrite hok hshadow hparams
  obtain ⟨ha, htparams, htshadow⟩ := shadow_of_exec_writeReg_ok hwrite hok
  have hp : u.params = s.params := hparams.trans htparams
  have hentry : u.shadow[a.toNat]? = some v := by
    rw [hshadow, htshadow]
    exact List.getElem?_set_self (hsized.symm ▸ ha)
  refine ⟨_, exec_readReg_of_entry (hp.symm ▸ ha) hentry, rfl, ?_⟩
  rw [hp]

/-- Settles O31, by the range test of the two commands; a write on a valid address ends in OK or LINK_ERROR. -/
theorem outOfRangeAddressesRefused : Obligations.OutOfRangeAddressesRefused := by
  intro a v s t u hwrite hread
  constructor <;> intro ha
  · exact ⟨(Host.Outcome.next.inj ((exec_writeReg_outOfRange v ha).symm.trans hwrite)).symm,
      (Host.Outcome.next.inj ((exec_readReg_outOfRange ha).symm.trans hread)).symm⟩
  · obtain rfl := Host.Outcome.next.inj ((exec_writeReg_valid v ha).symm.trans hwrite)
    obtain rfl := Host.Outcome.next.inj ((exec_readReg_valid ha).symm.trans hread)
    refine ⟨?_, nofun⟩
    obtain herr | herr := s.writeThrough_err a v <;> simp [herr]

/-- Settles O32: a valid address is an entry of the shadow. -/
theorem readRegReturnsShadow : Obligations.ReadRegReturnsShadow := by
  intro a s hsized ha
  have hentry := List.getElem?_eq_getElem (hsized.symm ▸ ha : a.toNat < s.shadow.length)
  exact ⟨_, hentry, exec_readReg_of_entry ha hentry⟩

end Sys2Proof.Machine
end

section
/-! PROOF. The PLL calculator (43_pll.md): the two-step rounding as one (R165, R167), the range and accuracy of the fraction
(R171, R172), and the two outcomes of PLL_CALC (R162, R163, R166). -/

namespace Sys2Proof.Machine

open Sys2Proof.Laws

section
variable {target source sEff kfull : Nat}

/-! ## The fraction -/

/-- R165: the step on the last decimal digit adds 5 and divides by 10, whatever the digit is. -/
theorem pllKfull_eq_add_five_div (target sEff : Nat) : pllKfull target sEff = (pllKpart target sEff + 5) / 10 := by
  simp only [pllKfull]
  split <;> omega

/-- R167: one rounded division. -/
theorem pllKfull_eq_div (target : Nat) (h : 0 < sEff) :
    pllKfull target sEff = (2 ^ 25 * (target % sEff) + sEff) / (2 * sEff) := by
  have hsum : fixedScale * (target % sEff) + 5 * sEff = 5 * (2 ^ 25 * (target % sEff) + sEff) := by
    rw [fixedScale]
    ring
  calc pllKfull target sEff
    _ = (fixedScale * (target % sEff) + 5 * sEff) / sEff / 10 := by
        rw [pllKfull_eq_add_five_div, pllKpart, Nat.add_mul_div_right _ _ h]
    _ = 5 * (2 ^ 25 * (target % sEff) + sEff) / (5 * (2 * sEff)) := by
        rw [hsum, Nat.div_div_eq_div_mul, show sEff * 10 = 5 * (2 * sEff) by ring]
    _ = (2 ^ 25 * (target % sEff) + sEff) / (2 * sEff) := Nat.mul_div_mul_left _ _ (by decide)

/-- R168: kfull is at most 2^24, since nmod is below the effective source. -/
theorem pllKfull_le (target : Nat) (h : 0 < sEff) : pllKfull target sEff ≤ 2 ^ 24 := by
  have hmod : target % sEff < sEff := Nat.mod_lt _ h
  rw [pllKfull_eq_div target h]
  refine Nat.le_of_lt_succ (Nat.div_lt_of_lt_mul ?_)
  omega

/-- R167: kfull is the nearest integer to the exact quotient. -/
theorem pllKfull_eq_round (target : Nat) (h : 0 < sEff) :
    (pllKfull target sEff : ℤ) = round (((target % sEff : ℕ) : ℚ) * 2 ^ 24 / sEff) := by
  have hne : (sEff : ℚ) ≠ 0 := Nat.cast_ne_zero.mpr h.ne'
  have hquot : ((target % sEff : ℕ) : ℚ) * 2 ^ 24 / sEff + 1 / 2 =
      ((2 ^ 25 * (target % sEff) + sEff : ℕ) : ℚ) / ((2 * sEff : ℕ) : ℚ) := by
    push_cast
    field_simp
    ring
  rw [round_eq, hquot, Rat.floor_natCast_div_natCast, pllKfull_eq_div target h]
  exact Int.natCast_ediv _ _

/-- R168: KSAT says that kfull is 2^24. -/
theorem pllKsat_eq_true : pllKsat kfull = true ↔ kfull = 2 ^ 24 := beq_iff_eq

/-- R168: without saturation k is kfull. -/
theorem pllK_of_ksat_false (h : pllKsat kfull = false) : pllK kfull = kfull :=
  if_neg fun hk => Bool.false_ne_true (h.symm.trans (pllKsat_eq_true.mpr hk))

/-- R171: saturation brings k into 24 bits. -/
theorem pllK_le (h : kfull ≤ 2 ^ 24) : pllK kfull ≤ 2 ^ 24 - 1 := by
  rw [pllK]
  split <;> omega

/-- R172: how far nmod is from s_eff * kfull / 2^24. -/
theorem abs_nmod_sub_le (target : Nat) (h : 0 < sEff) :
    |((target % sEff : ℕ) : ℚ) - (sEff : ℚ) * (pllKfull target sEff : ℚ) / 2 ^ 24| ≤ (sEff : ℚ) / 2 ^ 25 := by
  have hpos : (0 : ℚ) < sEff := Nat.cast_pos.mpr h
  have hround := abs_sub_round (((target % sEff : ℕ) : ℚ) * 2 ^ 24 / sEff)
  rw [← pllKfull_eq_round target h, Int.cast_natCast] at hround
  have hscale : ((target % sEff : ℕ) : ℚ) - sEff * (pllKfull target sEff : ℚ) / 2 ^ 24 =
      sEff / 2 ^ 24 * (((target % sEff : ℕ) : ℚ) * 2 ^ 24 / sEff - pllKfull target sEff) := by
    field_simp
  calc |((target % sEff : ℕ) : ℚ) - (sEff : ℚ) * (pllKfull target sEff : ℚ) / 2 ^ 24|
    _ = (sEff : ℚ) / 2 ^ 24 * |((target % sEff : ℕ) : ℚ) * 2 ^ 24 / sEff - pllKfull target sEff| := by
        rw [hscale, abs_mul, abs_of_pos (by positivity)]
    _ ≤ (sEff : ℚ) / 2 ^ 24 * (1 / 2) := by gcongr
    _ = (sEff : ℚ) / 2 ^ 25 := by ring

/-! ## The division -/

/-- R162: the effective source, halved when the divider is below 6. -/
def pllEffective (target source : Nat) : Nat := if target / source < 6 then source / 2 else source

/-- R163: the inputs PLL_CALC refuses. -/
def pllRefuses (target source : Nat) : Prop := target = 0 ∨ source = 0 ∨ (source = 1 ∧ target < 6)

/-- R163: the effective source of accepted inputs is not zero. -/
theorem pllEffective_pos (h : ¬pllRefuses target source) : 0 < pllEffective target source := by
  obtain ⟨-, hsource, hhalf⟩ : target ≠ 0 ∧ source ≠ 0 ∧ ¬(source = 1 ∧ target < 6) := by
    simpa [pllRefuses] using h
  rw [pllEffective]
  split
  · next hpre =>
    have hone : source ≠ 1 := by
      rintro rfl
      exact hhalf ⟨rfl, by simpa using hpre⟩
    omega
  · exact Nat.pos_of_ne_zero hsource

/-- R163: refused inputs have no division. -/
theorem pllDivide_refused (h : pllRefuses target source) : pllDivide target source = none := by
  rw [pllDivide]
  split
  · rfl
  · next hzero =>
    obtain ⟨rfl, hlow⟩ : source = 1 ∧ target < 6 := by
      simpa only [pllRefuses, ← or_assoc, hzero, false_or] using h
    rw [Nat.div_one, if_pos hlow, if_pos rfl]

/-- R162: accepted inputs are divided by the effective source. -/
theorem pllDivide_accepted (h : ¬pllRefuses target source) :
    pllDivide target source =
      some ⟨decide (target / source < 6), pllEffective target source, target / pllEffective target source⟩ := by
  have hzero : ¬(target = 0 ∨ source = 0) := fun h0 => h (h0.imp_right .inl)
  have hpos := pllEffective_pos h
  rw [pllDivide, if_neg hzero]
  by_cases hpre : target / source < 6
  · have heff : pllEffective target source = source / 2 := if_pos hpre
    rw [heff] at hpos ⊢
    rw [if_pos hpre, if_neg hpos.ne', decide_eq_true hpre]
  · have heff : pllEffective target source = source := if_neg hpre
    rw [heff, if_neg hpre, decide_eq_false hpre]

end

/-! ## The command -/

/-- R166, R169: RESULT0 as a sum of its fields. -/
theorem pllResult0_eq (ksat nwarn prescale : Bool) (n : Nat) :
    pllResult0 ksat nwarn prescale (BitVec.ofNat 32 n) =
      BitVec.ofNat 32
        ((if ksat then 64 else 0) + (if nwarn then 32 else 0) + (if prescale then 16 else 0) + n % 16) := by
  apply BitVec.eq_of_toNat_eq
  have hbit (b : Bool) (m : Nat) : (if b then m else 0) = b.toNat * m := by cases b <;> simp
  have hksat := ksat.toNat_lt
  have hnwarn := nwarn.toNat_lt
  have hprescale := prescale.toNat_lt
  simp only [pllResult0, append_toNat, extract_toNat, BitVec.toNat_ofBool, BitVec.toNat_ofNat, hbit]
  omega

section
variable {s : State}

/-- R163: PLL_CALC on refused inputs. -/
theorem exec_pllCalc_refused (h : pllRefuses s.arg0.toNat s.arg1.toNat) :
    exec .pllCalc s = .next { s with err := .invalidFrequency } := by
  rw [exec, execPllCalc, State.pllTarget, State.pllSource, pllDivide_refused h]
  rfl

/-- R166: PLL_CALC on accepted inputs. -/
theorem exec_pllCalc_accepted (h : ¬pllRefuses s.arg0.toNat s.arg1.toNat) :
    exec .pllCalc s =
      .next (s.pllWrite s.arg0.toNat
        ⟨decide (s.arg0.toNat / s.arg1.toNat < 6), pllEffective s.arg0.toNat s.arg1.toNat,
          s.arg0.toNat / pllEffective s.arg0.toNat s.arg1.toNat⟩) := by
  rw [exec, execPllCalc, State.pllTarget, State.pllSource, pllDivide_accepted h]

/-- R166: what PLL_CALC writes. -/
theorem State.pllWrite_eq (target : Nat) (d : PllDivide) :
    s.pllWrite target d =
      { s with
        result0 := BitVec.ofNat 32
          ((if pllKfull target d.sEff = 2 ^ 24 then 64 else 0) + (if d.ndiv < 6 ∨ 12 < d.ndiv then 32 else 0) +
            (if d.prescale then 16 else 0) + d.ndiv % 16)
        result1 := BitVec.ofNat 32 (pllK (pllKfull target d.sEff))
        result2 := BitVec.ofNat 32 d.ndiv
        err := .ok } := by
  simp only [State.pllWrite, pllResult0_eq, pllKsat_eq_true, pllNwarn, Bool.or_eq_true, decide_eq_true_eq]
  rfl

end

/-! ## The claims -/

/-- Settles O36, by whether the inputs are refused. -/
theorem pllCalcResult : Obligations.PllCalcResult := by
  intro s
  refine ⟨fun ht hq hhalf => ?_, exec_pllCalc_refused⟩
  have haccepted : ¬pllRefuses s.arg0.toNat s.arg1.toNat := by
    simp only [pllRefuses, ht, hq, hhalf, or_false, not_false_eq_true]
  rw [exec_pllCalc_accepted haccepted, State.pllWrite_eq]
  simp only [decide_eq_true_eq]
  rfl

/-- Settles O37: the rounding of Mathlib is the floor of the quotient and a half. -/
theorem pllRoundsHalfUp : Obligations.PllRoundsHalfUp := by
  intro target sEff hpos
  rw [pllKfull_eq_round target hpos, round_eq]

/-- Settles O39: only accepted inputs end without error, and their k fits 24 bits. -/
theorem pllFractionInRange : Obligations.PllFractionInRange := by
  intro s t hexec hok
  by_cases hrefused : pllRefuses s.arg0.toNat s.arg1.toNat
  · obtain rfl := Host.Outcome.next.inj ((exec_pllCalc_refused hrefused).symm.trans hexec)
    cases hok
  · obtain rfl := Host.Outcome.next.inj ((exec_pllCalc_accepted hrefused).symm.trans hexec)
    rw [State.pllWrite_eq, BitVec.toNat_ofNat]
    exact (Nat.mod_le _ _).trans (pllK_le (pllKfull_le _ (pllEffective_pos hrefused)))

/-- Settles O40: without saturation k is the nearest integer to the exact quotient, and target is s_eff * ndiv + nmod. -/
theorem pllAccuracy : Obligations.PllAccuracy := by
  intro target sEff hpos hksat
  have hnmod := abs_nmod_sub_le target hpos
  rw [pllK_of_ksat_false hksat]
  refine ⟨hnmod, ?_⟩
  have hdiv : (target : ℚ) = sEff * ((target / sEff : ℕ) : ℚ) + ((target % sEff : ℕ) : ℚ) := by
    exact_mod_cast (Nat.div_add_mod target sEff).symm
  have hdiff : (target : ℚ) - sEff * (((target / sEff : ℕ) : ℚ) + (pllKfull target sEff : ℚ) / 2 ^ 24) =
      ((target % sEff : ℕ) : ℚ) - sEff * (pllKfull target sEff : ℚ) / 2 ^ 24 := by
    rw [hdiv]
    ring
  rwa [hdiff]

end Sys2Proof.Machine
end

section
/-! PROOF. The geometry command, the frame pointer and the circular offset of the period sequencer (44_dma_sequencer.md
R188, R189, R194, R197, R198, R203, R204). -/

namespace Sys2Proof.Machine

section
variable {s : State}

/-! ## DMA_HW_PARAMS (R188, R189) -/

/-- R181, R188: the states in which DMA_HW_PARAMS is accepted, but for the geometry. -/
theorem Stream.refusesHwParams_eq_false_iff_idle_or_prepared (t : Stream) :
    t.refusesHwParams = false ↔ t.opened = true ∧ (t.state = .idle ∨ t.state = .prepared) := by
  rw [Stream.refusesHwParams_eq_false]
  cases t.state <;> simp

/-- R188: DMA_HW_PARAMS in a state of the stream that refuses it, whatever the geometry is. -/
theorem exec_dmaHwParams_refused (fb : Byte) (h : s.stream.refusesHwParams = true) :
    exec (.dmaHwParams fb) s = .next { s with err := .invalidState } := by
  rw [exec, execDmaHwParams, if_pos h]
  rfl

/-- R189: DMA_HW_PARAMS with a geometry that is not OK. -/
theorem exec_dmaHwParams_mismatch {fb : Byte} (h : s.stream.refusesHwParams = false)
    (hg : ¬geometryOk s.arg0 s.arg1 s.arg2 fb) :
    exec (.dmaHwParams fb) s = .next { s with err := .configMismatch } := by
  rw [exec, execDmaHwParams, if_neg (by simp [h]), State.hwBase, State.hwBytes, State.hwPeriod, if_neg hg]
  rfl

/-- R188: DMA_HW_PARAMS accepted. -/
theorem exec_dmaHwParams_accepted {fb : Byte} (h : s.stream.refusesHwParams = false)
    (hg : geometryOk s.arg0 s.arg1 s.arg2 fb = true) :
    exec (.dmaHwParams fb) s =
      .next { s with stream := s.stream.configure s.arg0 s.arg1 s.arg2 fb, err := .ok } := by
  rw [exec, execDmaHwParams, if_neg (by simp [h]), State.hwBase, State.hwBytes, State.hwPeriod, if_pos hg]
  rfl

/-! ## DMA_POINTER (R194, R204) -/

/-- R194: DMA_POINTER ends without error only on an open, configured stream, and then answers the frame count. -/
theorem exec_dmaPointer_ok {t : State} (h : exec .dmaPointer s = .next t) (hok : t.err = .ok) :
    s.stream.opened = true ∧ s.stream.configured = true ∧ t.result0 = s.stream.framePointer := by
  obtain rfl := Host.Outcome.next.inj h
  split at hok
  · cases hok
  · next haccepted =>
    rw [if_neg haccepted]
    simpa [and_assoc, State.succeed] using haccepted

/-- R29 (b): a buffer holds a whole number of frames. -/
theorem Stream.frameBytes_dvd_size {t : Stream} (hg : t.geometryValid) : t.frameBytes.toNat ∣ t.size.toNat := by
  obtain ⟨-, -, -, hsize, -, hperiod, -⟩ := hg
  exact (Nat.dvd_of_mod_eq_zero hperiod).trans (Nat.dvd_of_mod_eq_zero hsize)

/-- R194, R29 (c): the clamp never acts on a valid offset. -/
theorem Stream.clampedOffset_eq {t : Stream} (ho : t.offsetValid) : t.clampedOffset = t.offset :=
  if_neg (by rw [BitVec.le_def]; exact Nat.not_le.mpr ho.1)

/-- R194: the frame count of a valid offset. -/
theorem Stream.framePointer_toNat {t : Stream} (ho : t.offsetValid) :
    t.framePointer.toNat = t.offset.toNat / t.frameBytes.toNat := by
  rw [Stream.framePointer, Stream.clampedOffset_eq ho, BitVec.toNat_udiv, BitVec.toNat_setWidth_of_le (by decide)]

/-! ## Rounds of a completion and its PERIOD_ACK (R198, R203) -/

/-- R195, R197: what one round makes of the stream record. -/
theorem State.completionRound_stream (ho : s.stream.opened = true) (hn : s.stream.notify = false) :
    s.completionRound.stream =
      { s.stream.advance with notify := false, descLoaded := s.stream.running || s.stream.descLoaded } := by
  rw [State.completionRound, State.takeCompletion_effective s ho hn, State.periodReturn_stream]
  rfl

end

/-- R203: the stream record `u` that `k` rounds make of the configured stream record `t`. -/
structure Stream.AfterRounds (t : Stream) (k : Nat) (u : Stream) : Prop where
  inv : u.inv
  configured : u.configured = true
  opened : u.opened = true
  notify : u.notify = false
  size : u.size = t.size
  period : u.period = t.period
  offset : u.offset.toNat = (t.offset.toNat + k * t.period.toNat) % t.size.toNat
  elapsed : u.elapsed = t.elapsed + BitVec.ofNat 32 k

/-- R203: a stream record ready for its first round. -/
theorem Stream.AfterRounds.zero {t : Stream} (hinv : t.inv) (hc : t.configured = true) (ho : t.opened = true)
    (hn : t.notify = false) : t.AfterRounds 0 t := by
  obtain ⟨⟨-, -, hoff, -⟩, -⟩ := id hinv
  exact ⟨hinv, hc, ho, hn, rfl, rfl, by simp [Nat.mod_eq_of_lt (hoff hc).1], by simp⟩

/-- R198: one round more adds one period, modulo the size of the buffer. -/
theorem Stream.AfterRounds.succ {t : Stream} {k : Nat} {s : State} (h : t.AfterRounds k s.stream) :
    t.AfterRounds (k + 1) s.completionRound.stream := by
  obtain ⟨hinv, hc, ho, hn, hsize, hperiod, hoff, helapsed⟩ := h
  obtain ⟨⟨-, hgeo, hvalid, -⟩, -⟩ := id hinv
  rw [State.completionRound_stream ho hn]
  refine ⟨(Stream.CommandEffect.acknowledged rfl).keeps_inv (hinv.advance ho), hc, ho, rfl, hsize, hperiod, ?_, ?_⟩
  · calc s.stream.nextOffset.toNat
      _ = (s.stream.offset.toNat + s.stream.period.toNat) % s.stream.size.toNat :=
          s.stream.nextOffset_toNat (hgeo hc) (hvalid hc)
      _ = (t.offset.toNat + k * t.period.toNat + t.period.toNat) % t.size.toNat := by
          rw [hoff, hsize, hperiod, Nat.mod_add_mod]
      _ = (t.offset.toNat + (k + 1) * t.period.toNat) % t.size.toNat := by rw [Nat.succ_mul, Nat.add_assoc]
  · rw [BitVec.ofNat_add, ← BitVec.add_assoc, ← helapsed]
    rfl

/-- R203: any number of rounds. -/
theorem State.completionRounds_afterRounds {s : State} (hinv : s.stream.inv) (hc : s.stream.configured = true)
    (ho : s.stream.opened = true) (hn : s.stream.notify = false) (k : Nat) :
    s.stream.AfterRounds k (s.completionRounds k).stream := by
  induction k with
  | zero => exact .zero hinv hc ho hn
  | succ k ih => exact ih.succ

/-- R203: as many rounds as the buffer has periods bring the offset back. -/
theorem Stream.AfterRounds.offset_eq {t u : Stream} (h : t.AfterRounds (t.size.toNat / t.period.toNat) u)
    (hg : t.geometryValid) (ho : t.offsetValid) : u.offset = t.offset := by
  obtain ⟨-, -, -, hsize, -⟩ := hg
  apply BitVec.eq_of_toNat_eq
  rw [h.offset, Nat.div_mul_cancel (Nat.dvd_of_mod_eq_zero hsize), Nat.add_mod_right, Nat.mod_eq_of_lt ho.1]

/-! ## The claims -/

/-- Settles O47: the offset is below the size of the buffer, which FRAME_BYTES divides. -/
theorem pointerBelowFrameCount : Obligations.PointerBelowFrameCount := by
  rintro s t ⟨⟨-, hgeo, hoff, -⟩, -⟩ hexec hok
  obtain ⟨-, hc, hresult⟩ := exec_dmaPointer_ok hexec hok
  have hdvd := Stream.frameBytes_dvd_size (hgeo hc)
  refine ⟨?_, Nat.mod_eq_zero_of_dvd hdvd⟩
  rw [hresult, Stream.framePointer_toNat (hoff hc)]
  exact Nat.div_lt_div_of_lt_of_dvd hdvd (hoff hc).1

/-- Settles O52, by whether the stream is configured. -/
theorem wrapLaw : Obligations.WrapLaw := by
  rintro s ⟨⟨-, hgeo, hoff, -⟩, hunset⟩ ho hn
  rw [State.takeCompletion_effective s ho hn]
  exact ⟨fun hc => s.stream.nextOffset_toNat (hgeo hc) (hoff hc),
    fun hc => s.stream.nextOffset_of_geometryUnset (hunset hc)⟩

/-- Settles O53, by the state of the stream after any number of rounds. -/
theorem completionRoundTrip : Obligations.CompletionRoundTrip := by
  intro s hinv hc ho hn
  have hrounds := State.completionRounds_afterRounds hinv hc ho hn (s.stream.size.toNat / s.stream.period.toNat)
  obtain ⟨⟨-, hgeo, hoff, -⟩, -⟩ := hinv
  exact ⟨hrounds.offset_eq (hgeo hc) (hoff hc), hrounds.elapsed, hrounds.notify⟩

/-- Settles O42, by the state check and then the geometry check. -/
theorem dmaHwParamsResult : Obligations.DmaHwParamsResult := by
  intro fb s
  refine ⟨fun ha hok => ?_, fun ha hbad => ?_, fun ha => ?_⟩
  · exact exec_dmaHwParams_accepted ((Stream.refusesHwParams_eq_false_iff_idle_or_prepared _).mpr ha)
      ((geometryOk_iff _ _ _ _).mpr hok)
  · exact exec_dmaHwParams_mismatch ((Stream.refusesHwParams_eq_false_iff_idle_or_prepared _).mpr ha)
      (mt (geometryOk_iff _ _ _ _).mp hbad)
  · exact exec_dmaHwParams_refused fb
      (Bool.eq_true_of_not_eq_false (mt (Stream.refusesHwParams_eq_false_iff_idle_or_prepared _).mp ha))

end Sys2Proof.Machine
end

section
/-! PROOF. The reset state (70_reset_and_hazards.md): the table of R250, for any parameters. -/

namespace Sys2Proof.Machine

/-! ## The two packed registers of the table -/

/-- R22, R23: a read of STATUS packs the status fields. -/
theorem State.readRegister_status (s : State) : s.readRegister 0x1C = s.statusWord := rfl

/-- R22, R30: a read of LINES packs the levels of the lines. -/
theorem State.readRegister_lines (s : State) : s.readRegister 0x34 = s.lines.word := rfl

/-- R23, R27: STATUS is 0 with the stream record at reset and no error. -/
theorem State.statusWord_eq_zero {s : State} (hstream : s.stream = .atReset) (herr : s.err = .ok) :
    s.statusWord = 0 := by
  rw [State.statusWord, State.periodIrq, hstream, herr]
  decide

/-- R30: with CLK, DAT and MODE high, LINES is 7. -/
theorem Lines.word_atReset : Lines.atReset.word = 7 := by decide

/-! ## The claims -/

/-- Settles O14, row by row of R250's table: the plain fields have the value the reset state is built with, the two packed
registers the word of their fields at reset. -/
theorem resetStateIsTheRuleTable : Obligations.ResetStateIsTheRuleTable := by
  intro p
  have hstatus : (State.resetWith p).readRegister 0x1C = 0 :=
    (State.resetWith p).readRegister_status.trans (State.statusWord_eq_zero rfl rfl)
  have hlines : (State.resetWith p).readRegister 0x34 = 7 :=
    (State.resetWith p).readRegister_lines.trans Lines.word_atReset
  have hinv : (State.resetWith p).stream.ruleInv := Stream.inv_atReset.left
  exact ⟨⟨rfl, rfl, rfl, rfl, rfl, rfl⟩, hstatus, rfl, hlines, rfl, ⟨rfl, rfl, rfl, rfl, rfl, rfl⟩,
    ⟨rfl, rfl, rfl, rfl, rfl, rfl⟩, rfl, ⟨rfl, rfl, rfl⟩, hinv, rfl⟩

end Sys2Proof.Machine
end

section
/-! PROOF. The encoding (30_encoding.md R80 to R87): a word decodes exactly when it is the encoding of a well-formed command,
and the rows of the opcode table (R84) say when that is. -/

namespace Sys2Proof.Laws

/-! ## A word that decodes is an encoding -/

/-- R81: the seven commands without fields. -/
def fieldless (i : Instr) : Prop := i ∈ [.nop, .pllCalc, .dmaOpen, .dmaClose, .dmaPrepare, .dmaPointer, .periodAck]

/-- R89: the word of a command without fields is its opcode, with 28 zero bits below. -/
theorem encode_fieldless_toNat {i : Instr} (hi : fieldless i) : (encode i).toNat = i.opcode.toNat * 2 ^ 28 := by
  simp only [fieldless, List.mem_cons, List.not_mem_nil, or_false] at hi
  obtain rfl | rfl | rfl | rfl | rfl | rfl | rfl := hi <;> rfl

/-- R81, R84: the decoder on the opcode of a command without fields. -/
theorem decodeWord_of_fieldless_opcode {w : Word} {i : Instr} (hi : fieldless i) (h : w.toNat / 2 ^ 28 = i.opcode.toNat) :
    decodeWord w = checkReserved (w.extractLsb' 0 28) i := by
  simp only [fieldless, List.mem_cons, List.not_mem_nil, or_false] at hi
  simp only [decodeWord, opcodeField_toNat, h]
  obtain rfl | rfl | rfl | rfl | rfl | rfl | rfl := hi <;> rfl

/-- R80, R84, R86: every word has the opcode of a command without fields, of one of the five with fields, or a reserved one. -/
theorem opcode_cases (w : Word) :
    (∃ i, fieldless i ∧ w.toNat / 2 ^ 28 = i.opcode.toNat) ∨ w.toNat / 2 ^ 28 = 0x1 ∨ w.toNat / 2 ^ 28 = 0x2 ∨
      w.toNat / 2 ^ 28 = 0x3 ∨ w.toNat / 2 ^ 28 = 0x7 ∨ w.toNat / 2 ^ 28 = 0x9 ∨ 0xC ≤ w.toNat / 2 ^ 28 := by
  refine or_iff_not_imp_left.mpr fun hnone => ?_
  have h0 : w.toNat / 2 ^ 28 ≠ 0x0 := fun h => hnone ⟨.nop, by simp [fieldless], h⟩
  have h4 : w.toNat / 2 ^ 28 ≠ 0x4 := fun h => hnone ⟨.pllCalc, by simp [fieldless], h⟩
  have h5 : w.toNat / 2 ^ 28 ≠ 0x5 := fun h => hnone ⟨.dmaOpen, by simp [fieldless], h⟩
  have h6 : w.toNat / 2 ^ 28 ≠ 0x6 := fun h => hnone ⟨.dmaClose, by simp [fieldless], h⟩
  have h8 : w.toNat / 2 ^ 28 ≠ 0x8 := fun h => hnone ⟨.dmaPrepare, by simp [fieldless], h⟩
  have hA : w.toNat / 2 ^ 28 ≠ 0xA := fun h => hnone ⟨.dmaPointer, by simp [fieldless], h⟩
  have hB : w.toNat / 2 ^ 28 ≠ 0xB := fun h => hnone ⟨.periodAck, by simp [fieldless], h⟩
  omega

/-- R87: what passes the reserved-bit check. -/
theorem checkReserved_eq_ok {n : Nat} {bits : BitVec n} {i j : Instr} :
    checkReserved bits i = .ok j ↔ bits.toNat = 0 ∧ i = j := by
  unfold checkReserved
  split
  · next h => simp [h]
  · next h =>
    have hne : bits.toNat ≠ 0 := fun h0 => h (BitVec.eq_of_toNat_eq h0)
    simp [hne]

/-- R87: a format whose reserved bits are checked, where the word with these bits 0 is the encoding of its command. -/
theorem encode_of_checkReserved {n : Nat} {bits : BitVec n} {w : Word} {i j : Instr} (hd : decodeWord w = checkReserved bits j)
    (hencode : bits.toNat = 0 → (encode j).toNat = w.toNat) (hj : j.wellFormed = true) (h : decodeWord w = .ok i) :
    encode i = w ∧ i.wellFormed = true := by
  rw [hd, checkReserved_eq_ok] at h
  obtain ⟨hbits, rfl⟩ := h
  exact ⟨BitVec.eq_of_toNat_eq (hencode hbits), hj⟩

/-- R81, R87: an XMIT that decodes. -/
theorem encode_of_decodeWord_xmit {w : Word} {i : Instr} (hop : w.toNat / 2 ^ 28 = 0x3) (h : decodeWord w = .ok i) :
    encode i = w ∧ i.wellFormed = true := by
  rw [decodeWord_xmit hop] at h
  split at h
  · next hbits =>
    have hzero : w.toNat / 2 ^ 26 % 2 ^ 2 = 0 := by rw [← extract_toNat, hbits]; rfl
    split at h
    · cases h
    · next hlen =>
      obtain rfl := Except.ok.inj h
      refine ⟨BitVec.eq_of_toNat_eq ?_, by simpa [Instr.wellFormed] using hlen⟩
      have := w.isLt
      rw [encode_xmit_toNat, extract_toNat, extract_toNat, extract_toNat, extract_toNat]
      omega
  · cases h

/-- No command without fields has a reserved value. -/
theorem wellFormed_of_fieldless {i : Instr} (hi : fieldless i) : i.wellFormed = true := by
  simp only [fieldless, List.mem_cons, List.not_mem_nil, or_false] at hi
  obtain rfl | rfl | rfl | rfl | rfl | rfl | rfl := hi <;> rfl

/-- R80 to R82, R87: a word that decodes is the encoding of the command, which is well-formed. -/
theorem encode_of_decodeWord {w : Word} {i : Instr} (h : decodeWord w = .ok i) : encode i = w ∧ i.wellFormed = true := by
  have hw := w.isLt
  obtain ⟨j, hj, hop⟩ | hop | hop | hop | hop | hop | hop := opcode_cases w
  · refine encode_of_checkReserved (decodeWord_of_fieldless_opcode hj hop) (fun hbits => ?_) (wellFormed_of_fieldless hj) h
    rw [extract_toNat] at hbits
    rw [encode_fieldless_toNat hj]
    omega
  · refine encode_of_checkReserved (decodeWord_writeReg hop) (fun hbits => ?_) rfl h
    rw [extract_toNat] at hbits
    rw [encode_writeReg_toNat, extract_toNat, extract_toNat]
    omega
  · refine encode_of_checkReserved (decodeWord_readReg hop) (fun hbits => ?_) rfl h
    rw [append_toNat, extract_toNat, extract_toNat] at hbits
    rw [encode_readReg_toNat, extract_toNat]
    omega
  · exact encode_of_decodeWord_xmit hop h
  · refine encode_of_checkReserved (decodeWord_dmaHwParams hop) (fun hbits => ?_) rfl h
    rw [extract_toNat] at hbits
    rw [encode_dmaHwParams_toNat, extract_toNat]
    omega
  · refine encode_of_checkReserved (decodeWord_dmaTrigger hop) (fun hbits => ?_) rfl h
    rw [extract_toNat] at hbits
    rw [encode_dmaTrigger_toNat, extract_toNat]
    omega
  · cases (decodeWord_reservedOpcode hop).symm.trans h

/-! ## An encoding decodes -/

/-- R82: a field read back from a word, on numbers. -/
theorem extractLsb'_eq_of_toNat {n start len : Nat} {w : BitVec n} {v : BitVec len}
    (h : w.toNat / 2 ^ start % 2 ^ len = v.toNat) : w.extractLsb' start len = v :=
  BitVec.eq_of_toNat_eq ((extract_toNat start len w).trans h)

/-- R80 to R82: the decoder on the encoding of a command, format by format. -/
theorem decodeWord_encode_fieldless {i : Instr} (hi : fieldless i) : decodeWord (encode i) = .ok i := by
  have hop : (encode i).toNat / 2 ^ 28 = i.opcode.toNat := by rw [encode_fieldless_toNat hi]; omega
  rw [decodeWord_of_fieldless_opcode hi hop, checkReserved_eq_ok, extract_toNat, encode_fieldless_toNat hi]
  exact ⟨by omega, rfl⟩

theorem decodeWord_encode_writeReg (a : Byte) (v : Half) : decodeWord (encode (.writeReg a v)) = .ok (.writeReg a v) := by
  have he := encode_writeReg_toNat a v
  have ha := a.isLt
  have hv := v.isLt
  rw [decodeWord_writeReg (by omega), checkReserved_eq_ok, extract_toNat]
  refine ⟨by omega, ?_⟩
  congr 1 <;> exact extractLsb'_eq_of_toNat (by omega)

theorem decodeWord_encode_readReg (a : Byte) : decodeWord (encode (.readReg a)) = .ok (.readReg a) := by
  have he := encode_readReg_toNat a
  have ha := a.isLt
  rw [decodeWord_readReg (by omega), checkReserved_eq_ok, append_toNat, extract_toNat, extract_toNat]
  refine ⟨by omega, ?_⟩
  exact congrArg _ (extractLsb'_eq_of_toNat (by omega))

/-- R81: where LEN stands in the word of an XMIT. -/
theorem encode_xmit_len (len : BitVec 2) (b0 b1 b2 : Byte) : (encode (.xmit len b0 b1 b2)).extractLsb' 24 2 = len := by
  have he := encode_xmit_toNat len b0 b1 b2
  have hl := len.isLt
  have h0 := b0.isLt
  have h1 := b1.isLt
  have h2 := b2.isLt
  exact extractLsb'_eq_of_toNat (by omega)

theorem decodeWord_encode_xmit (len : BitVec 2) (b0 b1 b2 : Byte) (hlen : len ≠ 3) :
    decodeWord (encode (.xmit len b0 b1 b2)) = .ok (.xmit len b0 b1 b2) := by
  have he := encode_xmit_toNat len b0 b1 b2
  have hl := len.isLt
  have h0 := b0.isLt
  have h1 := b1.isLt
  have h2 := b2.isLt
  have hbits : (encode (.xmit len b0 b1 b2)).extractLsb' 26 2 = 0 :=
    extractLsb'_eq_of_toNat (by rw [BitVec.ofNat_eq_ofNat, BitVec.toNat_zero]; omega)
  rw [decodeWord_xmit (by omega), if_pos hbits, encode_xmit_len, if_neg hlen]
  congr 2 <;> exact extractLsb'_eq_of_toNat (by omega)

theorem decodeWord_encode_dmaHwParams (fb : Byte) : decodeWord (encode (.dmaHwParams fb)) = .ok (.dmaHwParams fb) := by
  have he := encode_dmaHwParams_toNat fb
  have hfb := fb.isLt
  rw [decodeWord_dmaHwParams (by omega), checkReserved_eq_ok, extract_toNat]
  refine ⟨by omega, ?_⟩
  exact congrArg _ (extractLsb'_eq_of_toNat (by omega))

theorem decodeWord_encode_dmaTrigger (c : BitVec 4) : decodeWord (encode (.dmaTrigger c)) = .ok (.dmaTrigger c) := by
  have he := encode_dmaTrigger_toNat c
  have hc := c.isLt
  rw [decodeWord_dmaTrigger (by omega), checkReserved_eq_ok, extract_toNat]
  refine ⟨by omega, ?_⟩
  exact congrArg _ (extractLsb'_eq_of_toNat (by omega))

theorem decodeWord_encode {i : Instr} (h : i.wellFormed = true) : decodeWord (encode i) = .ok i := by
  cases i with
  | writeReg a v => exact decodeWord_encode_writeReg a v
  | readReg a => exact decodeWord_encode_readReg a
  | xmit len b0 b1 b2 => exact decodeWord_encode_xmit len b0 b1 b2 (by simpa [Instr.wellFormed] using h)
  | dmaHwParams fb => exact decodeWord_encode_dmaHwParams fb
  | dmaTrigger c => exact decodeWord_encode_dmaTrigger c
  | _ => exact decodeWord_encode_fieldless (by simp [fieldless])

/-! ## The rows of the opcode table -/

/-- R84: a row with `n` free low bits fixes the bits above them. -/
theorem and_high_mask_eq_iff {m n : Nat} (w : BitVec (m + n)) (p : BitVec m) :
    w &&& (BitVec.allOnes m ++ 0#n) = p ++ 0#n ↔ w.toNat / 2 ^ n = p.toNat := by
  have hlt : w.toNat / 2 ^ n < 2 ^ m := Nat.div_lt_of_lt_mul (by rw [← pow_add, Nat.add_comm n m]; exact w.isLt)
  have hhigh : (w.extractLsb' n m).toNat = w.toNat / 2 ^ n := by rw [extract_toNat, Nat.mod_eq_of_lt hlt]
  have hsplit : w = w.extractLsb' n m ++ w.extractLsb' 0 n := by
    apply BitVec.eq_of_toNat_eq
    rw [append_toNat, hhigh, extract_toNat, pow_zero, Nat.div_one, Nat.div_add_mod']
  have hand : w &&& (BitVec.allOnes m ++ 0#n) = w.extractLsb' n m ++ 0#n := by
    conv_lhs => rw [hsplit, BitVec.and_append, BitVec.and_allOnes, BitVec.and_zero]
  rw [hand, BitVec.append_left_inj, ← hhigh, BitVec.toNat_inj]

/-- R84: READ_REG leaves bits [23:16] free, between two parts it fixes. -/
theorem and_readReg_mask_eq_iff (w : Word) :
    w &&& 0xFF00FFFF = 0x20000000 ↔ w.toNat / 2 ^ 24 = 0x20 ∧ w.toNat % 2 ^ 16 = 0 := by
  have hsplit : w = w.extractLsb' 24 8 ++ w.extractLsb' 16 8 ++ w.extractLsb' 0 16 := by
    apply BitVec.eq_of_toNat_eq
    have := w.isLt
    rw [append_toNat, append_toNat, extract_toNat, extract_toNat, extract_toNat]
    omega
  have hand : w &&& (BitVec.allOnes 8 ++ 0#8 ++ BitVec.allOnes 16) = w.extractLsb' 24 8 ++ 0#8 ++ w.extractLsb' 0 16 := by
    conv_lhs => rw [hsplit, BitVec.and_append, BitVec.and_append, BitVec.and_allOnes, BitVec.and_allOnes, BitVec.and_zero]
  have hmask : w &&& 0xFF00FFFF = w.extractLsb' 24 8 ++ 0#8 ++ w.extractLsb' 0 16 := hand
  rw [hmask, ← BitVec.toNat_inj, append_toNat, append_toNat, extract_toNat, extract_toNat]
  have := w.isLt
  simp
  omega

/-- R84: the row of a command without fields holds its word only. -/
theorem decodes_fieldless_iff {w : Word} {i : Instr} (hi : fieldless i) :
    (∃ j, decodeWord w = .ok j ∧ j.mnemonic = i.mnemonic) ↔
      ((⟨i.mnemonic, encode i, 0xFFFFFFFF⟩ : OpcodeRow).holds w = true ∧
        (i.mnemonic = "XMIT" → w.extractLsb' 24 2 ≠ 3)) := by
  have hmnemonic (j : Instr) : j.mnemonic = i.mnemonic → j = i := by
    simp only [fieldless, List.mem_cons, List.not_mem_nil, or_false] at hi
    obtain rfl | rfl | rfl | rfl | rfl | rfl | rfl := hi <;> cases j <;> simp [Instr.mnemonic]
  have hnotXmit : i.mnemonic ≠ "XMIT" := by
    simp only [fieldless, List.mem_cons, List.not_mem_nil, or_false] at hi
    obtain rfl | rfl | rfl | rfl | rfl | rfl | rfl := hi <;> decide
  have hones : w &&& 0xFFFFFFFF = w := BitVec.and_allOnes
  simp only [OpcodeRow.holds, hones, beq_iff_eq, hnotXmit, false_imp_iff, and_true]
  constructor
  · rintro ⟨j, hd, hj⟩
    obtain rfl := hmnemonic j hj
    exact (encode_of_decodeWord hd).1.symm
  · rintro rfl
    exact ⟨i, decodeWord_encode_fieldless hi, rfl⟩

/-! R84: the rows of the five formats with fields. -/

theorem decodes_writeReg_iff (w : Word) :
    (∃ i, decodeWord w = .ok i ∧ i.mnemonic = "WRITE_REG") ↔ w &&& 0xFF000000 = 0x10000000 := by
  have hrow : w &&& 0xFF000000 = 0x10000000 ↔ w.toNat / 2 ^ 24 = 0x10 := and_high_mask_eq_iff (m := 8) (n := 24) w 0x10
  rw [hrow]
  constructor
  · rintro ⟨i, hd, hi⟩
    obtain ⟨rfl, -⟩ := encode_of_decodeWord hd
    cases i with
    | writeReg a v =>
      rw [encode_writeReg_toNat]
      have := a.isLt
      have := v.isLt
      omega
    | _ => simp [Instr.mnemonic] at hi
  · intro h
    refine ⟨_, (decodeWord_writeReg (by omega)).trans (checkReserved_eq_ok.mpr ⟨?_, rfl⟩), rfl⟩
    rw [extract_toNat]
    omega

theorem decodes_readReg_iff (w : Word) :
    (∃ i, decodeWord w = .ok i ∧ i.mnemonic = "READ_REG") ↔ w &&& 0xFF00FFFF = 0x20000000 := by
  rw [and_readReg_mask_eq_iff]
  constructor
  · rintro ⟨i, hd, hi⟩
    obtain ⟨rfl, -⟩ := encode_of_decodeWord hd
    cases i with
    | readReg a =>
      rw [encode_readReg_toNat]
      have := a.isLt
      omega
    | _ => simp [Instr.mnemonic] at hi
  · intro h
    refine ⟨_, (decodeWord_readReg (by omega)).trans (checkReserved_eq_ok.mpr ⟨?_, rfl⟩), rfl⟩
    rw [append_toNat, extract_toNat, extract_toNat]
    omega

theorem decodes_xmit_iff (w : Word) :
    (∃ i, decodeWord w = .ok i ∧ i.mnemonic = "XMIT") ↔ w &&& 0xFC000000 = 0x30000000 ∧ w.extractLsb' 24 2 ≠ 3 := by
  have hrow : w &&& 0xFC000000 = 0x30000000 ↔ w.toNat / 2 ^ 26 = 0xC := and_high_mask_eq_iff (m := 6) (n := 26) w 0xC
  rw [hrow]
  constructor
  · rintro ⟨i, hd, hi⟩
    obtain ⟨rfl, hwf⟩ := encode_of_decodeWord hd
    cases i with
    | xmit len b0 b1 b2 =>
      have he := encode_xmit_toNat len b0 b1 b2
      have := b0.isLt
      have := b1.isLt
      have := b2.isLt
      have := len.isLt
      exact ⟨by omega, by simpa [encode_xmit_len, Instr.wellFormed] using hwf⟩
    | _ => simp [Instr.mnemonic] at hi
  · rintro ⟨h, hlen⟩
    have hbits : w.extractLsb' 26 2 = 0 :=
      extractLsb'_eq_of_toNat (by rw [BitVec.ofNat_eq_ofNat, BitVec.toNat_zero]; omega)
    have hd := decodeWord_xmit (w := w) (by omega)
    rw [if_pos hbits, if_neg hlen] at hd
    exact ⟨_, hd, rfl⟩

theorem decodes_dmaHwParams_iff (w : Word) :
    (∃ i, decodeWord w = .ok i ∧ i.mnemonic = "DMA_HW_PARAMS") ↔ w &&& 0xFFFFFF00 = 0x70000000 := by
  have hrow : w &&& 0xFFFFFF00 = 0x70000000 ↔ w.toNat / 2 ^ 8 = 0x700000 :=
    and_high_mask_eq_iff (m := 24) (n := 8) w 0x700000
  rw [hrow]
  constructor
  · rintro ⟨i, hd, hi⟩
    obtain ⟨rfl, -⟩ := encode_of_decodeWord hd
    cases i with
    | dmaHwParams fb =>
      rw [encode_dmaHwParams_toNat]
      have := fb.isLt
      omega
    | _ => simp [Instr.mnemonic] at hi
  · intro h
    refine ⟨_, (decodeWord_dmaHwParams (by omega)).trans (checkReserved_eq_ok.mpr ⟨?_, rfl⟩), rfl⟩
    rw [extract_toNat]
    omega

theorem decodes_dmaTrigger_iff (w : Word) :
    (∃ i, decodeWord w = .ok i ∧ i.mnemonic = "DMA_TRIGGER") ↔ w &&& 0xFFFFFFF0 = 0x90000000 := by
  have hrow : w &&& 0xFFFFFFF0 = 0x90000000 ↔ w.toNat / 2 ^ 4 = 0x9000000 :=
    and_high_mask_eq_iff (m := 28) (n := 4) w 0x9000000
  rw [hrow]
  constructor
  · rintro ⟨i, hd, hi⟩
    obtain ⟨rfl, -⟩ := encode_of_decodeWord hd
    cases i with
    | dmaTrigger c =>
      rw [encode_dmaTrigger_toNat]
      have := c.isLt
      omega
    | _ => simp [Instr.mnemonic] at hi
  · exact fun h => ⟨_, decodeWord_dmaTrigger_of_reserved_zero h, rfl⟩

/-! ## The claims -/

/-- Settles O1: the bytes of a word are put together again, and the decoder reads each format's fields back. -/
theorem encodedCommandsDecodeBack : Obligations.EncodedCommandsDecodeBack := by
  intro i hi
  rw [encodeBytes, decode_bytesOfWord]
  exact decodeWord_encode hi

/-- Settles O2, by the opcode of the word: its format's reserved bits are 0 and its fields are the rest. -/
theorem decodedWordsEncodeBack : Obligations.DecodedWordsEncodeBack := fun _ _ => encode_of_decodeWord

/-- Settles O3, row by row. -/
theorem decoderAgreesWithOpcodeTable : Obligations.DecoderAgreesWithOpcodeTable := by
  intro w r hr
  simp only [opcodeRows, List.mem_cons, List.not_mem_nil, or_false] at hr
  obtain rfl | rfl | rfl | rfl | rfl | rfl | rfl | rfl | rfl | rfl | rfl | rfl := hr
  · exact decodes_fieldless_iff (i := .nop) (by simp [fieldless])
  · simpa [OpcodeRow.holds] using decodes_writeReg_iff w
  · simpa [OpcodeRow.holds] using decodes_readReg_iff w
  · simpa [OpcodeRow.holds] using decodes_xmit_iff w
  · exact decodes_fieldless_iff (i := .pllCalc) (by simp [fieldless])
  · exact decodes_fieldless_iff (i := .dmaOpen) (by simp [fieldless])
  · exact decodes_fieldless_iff (i := .dmaClose) (by simp [fieldless])
  · simpa [OpcodeRow.holds] using decodes_dmaHwParams_iff w
  · exact decodes_fieldless_iff (i := .dmaPrepare) (by simp [fieldless])
  · simpa [OpcodeRow.holds] using decodes_dmaTrigger_iff w
  · exact decodes_fieldless_iff (i := .dmaPointer) (by simp [fieldless])
  · exact decodes_fieldless_iff (i := .periodAck) (by simp [fieldless])

end Sys2Proof.Laws
end

section
/-! PROOF. One step on the whole state: what a command can make of it, what every other move leaves of it, and what is left of
it when a reset is asserted. The claims about steps are derived from these. -/

namespace Sys2Proof.Machine

open Sys2Proof.Laws

/-! ## What a command can make of the state -/

/-- What a transfer's command makes of SHADOW and UNKNOWN (R25, R34). -/
inductive TransferEnd (s : State) : Instr → List Half → List Nat → Prop where
  /-- R129. -/
  | sent (len : BitVec 2) (b0 b1 b2 : Byte) : TransferEnd s (.xmit len b0 b1 b2) s.shadow s.unknown
  /-- R145. -/
  | committed (a : Byte) (v : Half) (ha : a.toNat < s.params.regCount) :
      TransferEnd s (.writeReg a v) (s.shadow.set a.toNat v) (removeAddr a.toNat s.unknown)
  /-- R152. -/
  | linkFailed (a : Byte) (v : Half) (ha : a.toNat < s.params.regCount) :
      TransferEnd s (.writeReg a v) s.shadow (insertAddr a.toNat s.unknown)

/-- The states the command `i` can end in, from `s`, by what it writes and sends. -/
inductive CommandRun (s : State) : Instr → State → Prop where
  /-- R103, R107: NOP and every refusal. -/
  | ended (i : Instr) (e : ErrCode) : CommandRun s i { s with err := e }
  /-- R147. -/
  | read (a : Byte) (v : Word) : CommandRun s (.readReg a) { s with result0 := v, err := .ok }
  /-- R194. -/
  | pointed (v : Word) : CommandRun s .dmaPointer { s with result0 := v, err := .ok }
  /-- R166. -/
  | calculated (v0 v1 v2 : Word) :
      CommandRun s .pllCalc { s with result0 := v0, result1 := v1, result2 := v2, err := .ok }
  /-- R129, R145. -/
  | transferred {i : Instr} (vs : List Byte) (n : Nat) (e : ErrCode) {sh : List Half} {u : List Nat}
      (h : TransferEnd s i sh u) :
      CommandRun s i { s with
        trace := s.trace ++ transferEvents s.timing vs n
        lines := s.lines.after (transferEvents s.timing vs n)
        linkFaultAt := none
        result0 := BitVec.ofNat 32 n
        err := e
        shadow := sh
        unknown := u }
  /-- R186 to R188, R195: a stream command that sends no request. It leaves Running as it is. -/
  | recorded {i : Instr} {u : Stream} (h : s.stream.CommandEffect i u) (hloaded : u.descLoaded = s.stream.descLoaded)
      (hstate : u.state ≠ .running → s.stream.state ≠ .running) : CommandRun s i { s with stream := u, err := .ok }
  /-- R190. -/
  | prepared (h : s.stream.refusesPrepare = false) (src dst ctrl : Word) :
      CommandRun s .dmaPrepare { s with
        trace := s.trace ++ [.dma (.setSrc src), .dma (.setDst dst), .dma (.setCtrl ctrl)]
        channel := { s.channel with src := src, dst := dst, ctrl := ctrl, loaded := true }
        stream := { s.stream with offset := 0, running := false, descLoaded := true, state := .prepared }
        err := .ok }
  /-- R193. -/
  | triggered (tcmd : BitVec 4) (c : Trigger) (hc : triggerOf tcmd = some c) (h : s.stream.refusesTrigger c = false) :
      CommandRun s (.dmaTrigger tcmd) { s with
        trace := s.trace ++ [.dma c.request]
        channel := s.channel.request s.params.dmaLateDone c.request
        modelFault := s.modelFault.or (s.channel.faultOf c.request)
        stream := s.stream.trigger c
        err := .ok }
  /-- R195. -/
  | restarted (hn : s.stream.notify = true) (hr : s.stream.running = true) (src dst ctrl : Word) :
      CommandRun s .periodAck { s with
        trace := s.trace ++ [.dma (.setSrc src), .dma (.setDst dst), .dma (.setCtrl ctrl), .dma .start]
        channel := { s.channel with src := src, dst := dst, ctrl := ctrl, loaded := true, armed := true }
        stream := { s.stream with notify := false, descLoaded := true }
        err := .ok }

section
variable {s t : State}

theorem execWriteReg_run {a : Byte} {v : Half} (h : execWriteReg a v s = .next t) : CommandRun s (.writeReg a v) t := by
  obtain rfl := Host.Outcome.next.inj h
  split
  · next hvalid =>
    have ha : a.toNat < s.params.regCount := of_decide_eq_true hvalid
    by_cases hfull : acceptedBytes 2 s.linkFaultAt = 2
    · rw [State.writeThrough_full s a v hfull]
      exact .transferred _ _ _ (.committed a v ha)
    · rw [State.writeThrough_short s a v hfull]
      exact .transferred _ _ _ (.linkFailed a v ha)
  · exact .ended _ _

theorem execReadReg_run {a : Byte} (h : execReadReg a s = .next t) : CommandRun s (.readReg a) t := by
  obtain rfl := Host.Outcome.next.inj h
  split
  · exact .read a _
  · exact .ended _ _

theorem execXmit_run {len : BitVec 2} {b0 b1 b2 : Byte} (h : execXmit len b0 b1 b2 s = .next t) :
    CommandRun s (.xmit len b0 b1 b2) t := by
  obtain rfl := Host.Outcome.next.inj h
  split
  · exact .ended _ _
  · rw [State.sendRaw_eq]
    exact .transferred _ _ _ (.sent len b0 b1 b2)

theorem execPllCalc_run (h : execPllCalc s = .next t) : CommandRun s .pllCalc t := by
  obtain rfl := Host.Outcome.next.inj h
  split
  · exact .ended _ _
  · exact .calculated _ _ _

theorem execDmaOpen_run (h : execDmaOpen s = .next t) : CommandRun s .dmaOpen t := by
  obtain rfl := Host.Outcome.next.inj h
  split
  · exact .ended _ _
  · next ho => exact .recorded (.opened (by simpa using ho)) rfl id

theorem execDmaClose_run (h : execDmaClose s = .next t) : CommandRun s .dmaClose t := by
  obtain rfl := Host.Outcome.next.inj h
  split
  · exact .ended _ _
  · next hr =>
    have hr : s.stream.refusesClose = false := by simpa using hr
    obtain ⟨-, hstate, -⟩ := s.stream.refusesClose_eq_false.mp hr
    exact .recorded (.closed hr) rfl fun _ => hstate

theorem execDmaHwParams_run {fb : Byte} (h : execDmaHwParams fb s = .next t) : CommandRun s (.dmaHwParams fb) t := by
  obtain rfl := Host.Outcome.next.inj h
  split
  · exact .ended _ _
  · next hr =>
    have hr : s.stream.refusesHwParams = false := by simpa using hr
    obtain ⟨-, hstate, -⟩ := s.stream.refusesHwParams_eq_false.mp hr
    split
    · next hg => exact .recorded (.configured _ _ _ _ hr hg) rfl fun _ => hstate
    · exact .ended _ _

theorem execDmaPrepare_run (h : execDmaPrepare s = .next t) : CommandRun s .dmaPrepare t := by
  obtain rfl := Host.Outcome.next.inj h
  split
  · exact .ended _ _
  · next hr =>
    have hsrc : Stream.source { s.stream with offset := 0, running := false } = s.stream.base := by simp [Stream.source]
    rw [State.prepareStream_eq, descriptorRequests, hsrc]
    exact .prepared (by simpa using hr) _ _ _

theorem execDmaTrigger_run {tcmd : BitVec 4} (h : execDmaTrigger tcmd s = .next t) : CommandRun s (.dmaTrigger tcmd) t := by
  obtain rfl := Host.Outcome.next.inj h
  split
  · exact .ended _ _
  · next c hc =>
    split
    · exact .ended _ _
    · next hr => exact .triggered tcmd c hc (by simpa using hr)

theorem execDmaPointer_run (h : execDmaPointer s = .next t) : CommandRun s .dmaPointer t := by
  obtain rfl := Host.Outcome.next.inj h
  split
  · exact .ended _ _
  · exact .pointed _

theorem execPeriodAck_run (h : execPeriodAck s = .next t) : CommandRun s .periodAck t := by
  obtain rfl := Host.Outcome.next.inj h
  split
  · next hn =>
    cases hr : s.stream.running
    · rw [State.periodReturn_stopped s hr]
      have he := Stream.CommandEffect.acknowledged hn
      have hloaded : (s.stream.running || s.stream.descLoaded) = s.stream.descLoaded := by rw [hr, Bool.false_or]
      rw [hloaded] at he
      exact .recorded he rfl id
    · rw [State.periodReturn_running s hr, List.append_assoc]
      exact .restarted hn hr _ _ _
  · exact .ended _ _

/-- R84, R100: every way a command can end. -/
theorem exec_run {i : Instr} (h : exec i s = .next t) : CommandRun s i t := by
  cases i with
  | nop => exact Host.Outcome.next.inj h ▸ .ended _ .ok
  | writeReg a v => exact execWriteReg_run h
  | readReg a => exact execReadReg_run h
  | xmit len b0 b1 b2 => exact execXmit_run h
  | pllCalc => exact execPllCalc_run h
  | dmaOpen => exact execDmaOpen_run h
  | dmaClose => exact execDmaClose_run h
  | dmaHwParams fb => exact execDmaHwParams_run h
  | dmaPrepare => exact execDmaPrepare_run h
  | dmaTrigger tcmd => exact execDmaTrigger_run h
  | dmaPointer => exact execDmaPointer_run h
  | periodAck => exact execPeriodAck_run h

/-- R109: a command always ends in a next state. -/
theorem exec_next (i : Instr) (s : State) : ∃ t, exec i s = .next t := by
  cases i <;> exact ⟨_, rfl⟩

/-! ## What a command sends -/

/-- The outputs of commands (R12): line events, whose waits last at least one cycle (R121), and requests to the channel. -/
def commandOutput : Output → Prop
  | .drive _ _ => True
  | .wait n => 1 ≤ n
  | .dma _ => True
  | .notify => False
  | .reset => False

/-- R121: W is at least 1. -/
theorem one_le_waitLength (x : Int) : 1 ≤ waitLength x := by
  unfold waitLength
  omega

/-- R123 to R125: the outputs of a transfer. -/
theorem commandOutput_of_mem_transferEvents {t : Timing} {vs : List Byte} {a : Nat} {o : Output}
    (h : o ∈ transferEvents t vs a) : commandOutput o := by
  have hwait (x : Half) : commandOutput (.wait (registerWait x)) := one_le_waitLength _
  have hcell (b : Bool) : ∀ o ∈ sendBit t b, commandOutput o := by
    simp only [sendBit, List.forall_mem_cons, List.not_mem_nil, false_imp_iff, implies_true, and_true]
    exact ⟨trivial, hwait _, trivial, hwait _, trivial, hwait _⟩
  rw [transferEvents_eq, List.mem_append, List.mem_append] at h
  obtain (h | h) | h := h
  · simp only [List.mem_cons, List.not_mem_nil, or_false] at h
    obtain rfl | rfl := h
    · trivial
    · exact hwait _
  · obtain ⟨b, -, hb⟩ := List.mem_flatMap.mp h
    exact hcell b o hb
  · unfold transferEnd at h
    split at h
    · simp only [endPulse, List.mem_cons, List.not_mem_nil, or_false] at h
      obtain rfl | rfl | rfl := h
      · trivial
      · exact one_le_waitLength _
      · trivial
    · cases h

/-- R12: a command appends its outputs to the trace, and its model fault is the one those outputs cause. -/
theorem CommandRun.outputs {i : Instr} (h : CommandRun s i t) :
    ∃ outs, t.trace = s.trace ++ outs ∧ t.modelFault = (s.emitAll outs).modelFault ∧ ∀ o ∈ outs, commandOutput o := by
  cases h with
  | transferred vs n =>
    refine ⟨_, rfl, ?_, fun o => commandOutput_of_mem_transferEvents⟩
    rw [State.emitAll_lineEvents _ _ (transferEvents_lineEvents _ _ _)]
  | prepared h src dst ctrl => exact ⟨_, rfl, by simp [Channel.faultOf], by simp [commandOutput]⟩
  | triggered tcmd c => exact ⟨_, rfl, rfl, by simp [commandOutput]⟩
  | restarted hn hr src dst ctrl =>
    exact ⟨_, rfl, by simp [Channel.faultOf, Channel.request], by simp [commandOutput]⟩
  | _ => exact ⟨[], by simp⟩

end

/-- R234: a recorded fault is never replaced by what is sent after it. -/
theorem State.emitAll_modelFault_of_ne_none {s : State} (h : s.modelFault ≠ none) (os : List Output) :
    (s.emitAll os).modelFault = s.modelFault := by
  induction os generalizing s with
  | nil => rfl
  | cons o os ih =>
    have ho : (s.emit o).modelFault = s.modelFault := by
      cases o with
      | dma op =>
        obtain ⟨f, hf⟩ := Option.ne_none_iff_exists'.mp h
        simp [hf]
      | _ => rfl
    rw [State.emitAll_cons, ih (ho ▸ h), ho]

/-! ## What a move leaves that runs no command and is no reset -/

/-- R22, R23: a host write, register by register. -/
theorem State.writeRegister_eq (s : State) (o : Byte) (w : Word) :
    s.writeRegister o w =
      { s with
        arg0 := if o = 0x04 then w else s.arg0
        arg1 := if o = 0x08 then w else s.arg1
        arg2 := if o = 0x0C then w else s.arg2
        timing :=
          { ds := if o = 0x20 then w.setWidth 16 else s.timing.ds
            dh := if o = 0x24 then w.setWidth 16 else s.timing.dh
            ch := if o = 0x28 then w.setWidth 16 else s.timing.ch
            mh := if o = 0x2C then w.setWidth 16 else s.timing.mh
            ms := if o = 0x30 then w.setWidth 16 else s.timing.ms }
        stream := if o = 0x1C then s.stream.clearSticky w else s.stream } := by
  have hoffset (n : Byte) (h : o.toNat = n.toNat) : o = n := BitVec.eq_of_toNat_eq h
  unfold State.writeRegister
  split
  · next h => cases hoffset 0x04 h; rfl
  · next h => cases hoffset 0x08 h; rfl
  · next h => cases hoffset 0x0C h; rfl
  · next h => cases hoffset 0x1C h; rfl
  · next h => cases hoffset 0x20 h; rfl
  · next h => cases hoffset 0x24 h; rfl
  · next h => cases hoffset 0x28 h; rfl
  · next h => cases hoffset 0x2C h; rfl
  · next h => cases hoffset 0x30 h; rfl
  · next h04 h08 h0C h1C h20 h24 h28 h2C h30 =>
    have hne (n : Byte) (h : o.toNat = n.toNat → False) : o ≠ n := fun he => h (congrArg _ he)
    simp only [if_neg (hne 0x04 h04), if_neg (hne 0x08 h08), if_neg (hne 0x0C h0C), if_neg (hne 0x1C h1C),
      if_neg (hne 0x20 h20), if_neg (hne 0x24 h24), if_neg (hne 0x28 h28), if_neg (hne 0x2C h2C), if_neg (hne 0x30 h30)]

/-- R24, R31, R199: the registers that only a host write changes are as they were, and no sticky bit is cleared. -/
structure HostRegistersKept (s t : State) : Prop where
  arg0 : t.arg0 = s.arg0
  arg1 : t.arg1 = s.arg1
  arg2 : t.arg2 = s.arg2
  timing : t.timing = s.timing
  overrun : s.stream.overrun = true → t.stream.overrun = true
  stray : s.stream.stray = true → t.stream.stray = true

/-- What a turn of the completion sequencer makes of the stream record, the count of delivered completions and the trace. -/
inductive CompletionTurn (s t : State) : Prop where
  /-- R199: nothing is counted and nothing is sent. -/
  | uncounted (htrace : t.trace = s.trace) (helapsed : t.stream.elapsed = s.stream.elapsed)
      (hnotify : t.stream.notify = s.stream.notify)
  /-- R197: an effective completion. -/
  | counted (hpending : s.pending ≠ 0) (hopened : s.stream.opened = true) (hnotify : s.stream.notify = false)
      (htaken : t.pending = s.pending - 1) (hstream : t.stream = s.stream.advance) (htrace : t.trace = s.trace ++ [.notify])

/-- What the move `e`, which runs no command and is no reset, leaves of the state `s`. -/
structure QuietMove (e : Event) (s t : State) : Prop where
  params : t.params = s.params
  result0 : t.result0 = s.result0
  result1 : t.result1 = s.result1
  result2 : t.result2 = s.result2
  lines : t.lines = s.lines
  shadow : t.shadow = s.shadow
  unknown : t.unknown = s.unknown
  modelFault : t.modelFault = s.modelFault
  loaded : t.channel.loaded = s.channel.loaded
  stream : s.stream.MoveEffect t.stream
  completion : CompletionTurn s t
  registers : HostRegistersKept s t ∨
    ∃ addr bytes o w u, e = .write addr bytes ∧ decodedWrite s.params addr bytes = some (o, w) ∧
      HostRegistersKept s u ∧ t = u.writeRegister o w

section
variable {s t : State}

theorem HostRegistersKept.refl (s : State) : HostRegistersKept s s := ⟨rfl, rfl, rfl, rfl, id, id⟩

/-- The moves still to come are no register. -/
theorem HostRegistersKept.of_inputs {rest : List Event} (h : HostRegistersKept { s with inputs := rest } t) :
    HostRegistersKept s t := ⟨h.arg0, h.arg1, h.arg2, h.timing, h.overrun, h.stray⟩

theorem CompletionTurn.of_inputs {rest : List Event} (h : CompletionTurn { s with inputs := rest } t) :
    CompletionTurn s t := by
  cases h with
  | uncounted htrace helapsed hnotify => exact .uncounted htrace helapsed hnotify
  | counted hp ho hn htaken hstream htrace => exact .counted hp ho hn htaken hstream htrace

theorem QuietMove.of_inputs {e : Event} {rest : List Event} (h : QuietMove e { s with inputs := rest } t) :
    QuietMove e s t where
  params := h.params
  result0 := h.result0
  result1 := h.result1
  result2 := h.result2
  lines := h.lines
  shadow := h.shadow
  unknown := h.unknown
  modelFault := h.modelFault
  loaded := h.loaded
  stream := h.stream
  completion := h.completion.of_inputs
  registers := by
    obtain hkept | ⟨addr, bytes, o, w, u, he, hw, hkept, ht⟩ := h.registers
    · exact .inl hkept.of_inputs
    · exact .inr ⟨addr, bytes, o, w, u, he, hw, hkept.of_inputs, ht⟩

end

section
variable (s : State)

/-- The moves that keep the registers, SHADOW and the stream record, and send nothing. -/
theorem QuietMove.of_kept (e : Event) (fault : Option Nat) (n : Nat) (err : ErrCode) (c : Channel) (bytes : List Byte)
    (hc : c.loaded = s.channel.loaded) :
    QuietMove e s { s with linkFaultAt := fault, pending := n, err := err, channel := c, rdata := bytes } :=
  ⟨rfl, rfl, rfl, rfl, rfl, rfl, rfl, rfl, hc, .kept, .uncounted rfl rfl rfl, .inl ⟨rfl, rfl, rfl, rfl, id, id⟩⟩

theorem QuietMove.refl (e : Event) : QuietMove e s s := .of_kept s e _ _ _ _ _ rfl

/-- R196, R197, R199: a turn of the completion sequencer. -/
theorem QuietMove.complete : QuietMove .complete s s.complete := by
  unfold State.complete
  split
  · exact .refl s _
  · next hp =>
    cases ho : s.stream.opened
    · rw [State.takeCompletion_stray (s.setPending (s.pending - 1)) ho]
      exact ⟨rfl, rfl, rfl, rfl, rfl, rfl, rfl, rfl, rfl, .stray ho, .uncounted rfl rfl rfl,
        .inl ⟨rfl, rfl, rfl, rfl, id, fun _ => rfl⟩⟩
    · cases hn : s.stream.notify
      · rw [State.takeCompletion_effective (s.setPending (s.pending - 1)) ho hn]
        exact ⟨rfl, rfl, rfl, rfl, rfl, rfl, rfl, rfl, rfl, .advanced ho hn, .counted hp ho hn rfl rfl rfl,
          .inl ⟨rfl, rfl, rfl, rfl, id, id⟩⟩
      · rw [State.takeCompletion_overrun (s.setPending (s.pending - 1)) ho hn]
        exact ⟨rfl, rfl, rfl, rfl, rfl, rfl, rfl, rfl, rfl, .overrun ho hn, .uncounted rfl rfl rfl,
          .inl ⟨rfl, rfl, rfl, rfl, fun _ => rfl, id⟩⟩

/-- R22, R23: a host write that issues no command. -/
theorem QuietMove.hostWrite (addr : BusAddress) (bytes : List Byte) :
    QuietMove (.write addr bytes) s (s.hostWrite addr bytes) := by
  cases hw : decodedWrite s.params addr bytes with
  | none =>
    rw [State.hostWrite, hw]
    exact .refl s _
  | some ow =>
    obtain ⟨o, w⟩ := ow
    have ht : s.hostWrite addr bytes = s.writeRegister o w := by rw [State.hostWrite, hw]
    have hstream := s.hostWrite_stream_effect addr bytes
    rw [ht] at hstream ⊢
    refine ⟨?_, ?_, ?_, ?_, ?_, ?_, ?_, ?_, ?_, hstream, .uncounted ?_ ?_ ?_, .inr ⟨addr, bytes, o, w, s, rfl, hw, .refl s, rfl⟩⟩
    all_goals rw [State.writeRegister_eq]
    all_goals dsimp only
    all_goals split <;> rfl

/-- R61, R66: a host read. -/
theorem QuietMove.hostRead (addr : BusAddress) (size : Nat) :
    QuietMove (.read addr size) s (s.hostRead addr size) := by
  unfold State.hostRead
  split
  · exact .of_kept s _ _ _ _ _ _ rfl
  · exact .refl s _

/-- R232. -/
theorem QuietMove.signalRun : QuietMove .signalRun s s.signalRun := by
  unfold State.signalRun
  split
  · exact .of_kept s _ _ _ _ _ _ rfl
  · exact .refl s _

/-- R232. -/
theorem QuietMove.signalLate : QuietMove .signalLate s s.signalLate := by
  unfold State.signalLate
  split
  · exact .of_kept s _ _ _ _ _ _ rfl
  · exact .refl s _

/-- R15: every move that runs no command and is no reset. -/
theorem QuietMove.move {e : Event} (he : ∀ p, e ≠ .reset p) : QuietMove e s (s.move e) := by
  cases e with
  | write addr bytes => exact .hostWrite s addr bytes
  | read addr size => exact .hostRead s addr size
  | deliver => exact .of_kept s _ _ _ _ _ _ rfl
  | signalRun => exact .signalRun s
  | signalLate => exact .signalLate s
  | complete => exact .complete s
  | linkFault k => exact .of_kept s _ _ _ _ _ _ rfl
  | reset p => exact absurd rfl (he p)
  | resetDuring w cut p => exact .refl s _

end

/-! ## One step -/

/-- What a reset finds: a first part of the outputs of the command it cuts, if it cuts one, stands in the trace, and such a
command may have caused the model fault (R234, R251; log 10). -/
structure ResetFrom (s u : State) : Prop where
  params : u.params = s.params
  outputs : ∃ outs, u.trace = s.trace ++ outs ∧ ∀ o ∈ outs, commandOutput o
  modelFault : u.modelFault = s.modelFault ∨ (s.modelFault = none ∧
    ∃ i rest ran, s.nextCommand = some i ∧ CommandRun { s with inputs := rest } i ran ∧ ran.modelFault ≠ none)

/-- What a step can do: reset; run no command; or run one. -/
inductive StepEffect (s t : State) : Prop where
  | reset (codecPowerOn : Bool) (u : State) (hnext : s.nextIsReset = true) (hu : ResetFrom s u)
      (ht : t = u.resetInput codecPowerOn)
  | quiet (e : Event) (he : e = .complete ∨ ∃ rest, s.inputs = e :: rest) (h : QuietMove e s t)
  | command (i : Instr) (rest : List Event) (hi : s.nextCommand = some i) (h : CommandRun { s with inputs := rest } i t)

/-- R251: what a reset finds that cuts a command after `cut` of its outputs. -/
theorem ResetFrom.of_cut {s ran : State} {i : Instr} {rest : List Event} (hi : s.nextCommand = some i)
    (hran : CommandRun { s with inputs := rest } i ran) (cut : Nat) (fault : Option Nat) :
    ResetFrom s { State.emitAll { s with inputs := rest } ((ran.trace.drop s.trace.length).take cut) with
      linkFaultAt := fault } := by
  obtain ⟨outs, htrace, hfault, houts⟩ := hran.outputs
  rw [htrace, List.drop_left]
  refine ⟨by simp, ⟨outs.take cut, by simp, fun o ho => houts o (List.mem_of_mem_take ho)⟩, ?_⟩
  change (State.emitAll { s with inputs := rest } (outs.take cut)).modelFault = _ ∨ _
  by_cases hrecorded : s.modelFault = none
  · by_cases hcut : (State.emitAll { s with inputs := rest } (outs.take cut)).modelFault = none
    · exact .inl (hcut.trans hrecorded.symm)
    · refine .inr ⟨hrecorded, i, rest, ran, hi, hran, ?_⟩
      rw [hfault, ← List.take_append_drop cut outs, State.emitAll_append, State.emitAll_modelFault_of_ne_none hcut]
      exact hcut
  · exact .inl (State.emitAll_modelFault_of_ne_none (s := { s with inputs := rest }) hrecorded _)

/-- What every step does. -/
theorem step_effect {s t : State} (h : step s = .next t) : StepEffect s t := by
  obtain ⟨-, rfl⟩ | ⟨e, rest, hi, -, rfl⟩ | ⟨e, rest, w, hi, hw, hs⟩ := step_cases h
  · exact .quiet .complete (.inl rfl) (.complete s)
  · by_cases he : ∃ p, e = .reset p
    · obtain ⟨p, rfl⟩ := he
      exact .reset p { s with inputs := rest } (by simp [State.nextIsReset, hi]) ⟨rfl, ⟨[], by simp⟩, .inl rfl⟩ rfl
    · exact .quiet e (.inr ⟨rest, hi⟩) (QuietMove.move _ fun p hp => he ⟨p, hp⟩).of_inputs
  · obtain ⟨i, hd, hr⟩ | ⟨r, -, hr⟩ := executeWord_cases w { s with inputs := rest }
    · have hnext := State.nextCommand_eq hi hw hd
      obtain ⟨hx, -⟩ | ⟨w', cut, p, u, rfl, hx, rfl⟩ := settleCommand_cases hs <;> rw [hr] at hx
      · exact .command i rest hnext (exec_run hx)
      · exact .reset p _ (by simp [State.nextIsReset, hi]) (.of_cut hnext (exec_run hx) cut u.linkFaultAt) rfl
    · obtain ⟨hx, -⟩ | ⟨w', cut, p, u, rfl, hx, rfl⟩ := settleCommand_cases hs <;> rw [hr] at hx <;>
        obtain rfl := Host.Outcome.next.inj hx
      · exact .quiet e (.inr ⟨rest, hi⟩) (QuietMove.of_kept { s with inputs := rest } e _ _ .badOpcode _ _ rfl).of_inputs
      · refine .reset p _ (by simp [State.nextIsReset, hi]) ?_ rfl
        exact ⟨by simp, ⟨[], by simp⟩, .inl (by simp)⟩

end Sys2Proof.Machine
end

section
/-! PROOF. What every step keeps of the state (R12, R25, R34, R132, R206, R234, R235), and where its changes come from (R24, R200,
R201, R221, R224, R226): each claim by what a step can do. -/

namespace Sys2Proof.Machine

open Sys2Proof.Laws

/-! ## Observing a concatenation of outputs -/

/-- R12: a trace's waits, one by one. -/
theorem waitsPositive_iff (os : List Output) : waitsPositive os = true ↔ ∀ n, .wait n ∈ os → 1 ≤ n := by
  induction os with
  | nil => simp [waitsPositive]
  | cons o os ih =>
    cases o with
    | wait n => simp [waitsPositive, ih, or_imp, forall_and]
    | _ => simp [waitsPositive, ih]

theorem notifications_append (n : Nat) (os os2 : List Output) :
    notifications n (os ++ os2) = notifications (notifications n os) os2 := by
  induction os generalizing n with
  | nil => rfl
  | cons o os ih => cases o <;> exact ih _

theorem lastRequest_append (last : Option DmaOp) (os os2 : List Output) :
    lastRequest last (os ++ os2) = lastRequest (lastRequest last os) os2 := by
  induction os generalizing last with
  | nil => rfl
  | cons o os ih => cases o <;> exact ih _

/-- R197: no command notifies. -/
theorem notifications_of_commandOutputs {os : List Output} (h : ∀ o ∈ os, commandOutput o) (n : Nat) :
    notifications n os = n := by
  induction os with
  | nil => rfl
  | cons o os ih =>
    obtain ⟨ho, hos⟩ := List.forall_mem_cons.mp h
    cases o with
    | notify => exact ho.elim
    | reset => exact ho.elim
    | _ => exact ih hos

/-- R206: a transfer sends no request. -/
theorem lastRequest_of_lineEvents {os : List Output} (h : os.all isLineEvent = true) (last : Option DmaOp) :
    lastRequest last os = last := by
  induction os with
  | nil => rfl
  | cons o os ih =>
    rw [List.all_cons, Bool.and_eq_true] at h
    obtain ⟨ho, hos⟩ := h
    cases o with
    | drive l b => exact ih hos
    | wait n => exact ih hos
    | _ => cases ho

/-! ## The lines after a transfer (R132) -/

/-- R125: the settle pulse returns MODE to 1 and leaves the other lines; a short transfer ends without one. -/
theorem Lines.after_transferEnd (l : Lines) (t : Timing) (n a : Nat) (h : l.mode = true) :
    l.after (transferEnd t n a) = l := by
  obtain ⟨clk, dat, mode⟩ := l
  cases h
  unfold transferEnd
  split <;> rfl

/-- R124, R132: the lines after any transfer. -/
theorem Lines.after_transferEvents (l : Lines) (t : Timing) (vs : List Byte) (a : Nat) :
    l.after (transferEvents t vs a) =
      { clk := if sentBits vs a = [] then l.clk else true, dat := (sentBits vs a).getLastD l.dat, mode := true } := by
  rw [transferEvents_eq, Lines.after_append, Lines.after_append, Lines.after_bitCells]
  exact Lines.after_transferEnd _ _ _ _ rfl

/-- R132: a transfer keeps the idle levels. -/
theorem Lines.idle_after_transferEvents {l : Lines} (h : l.idle) (t : Timing) (vs : List Byte) (a : Nat) :
    (l.after (transferEvents t vs a)).idle := by
  rw [Lines.after_transferEvents]
  refine ⟨?_, rfl⟩
  dsimp only
  split
  · exact h.1
  · rfl

/-! ## The triggers, by the request they send -/

/-- R191, R193: the codes of the triggers that send Start, and of those that send Stop. -/
theorem triggerOf_code {tcmd : BitVec 4} {c : Trigger} (hc : triggerOf tcmd = some c) :
    (c.request = .start ∧ (tcmd = 1 ∨ tcmd = 3)) ∨ (c.request = .stop ∧ (tcmd = 0 ∨ tcmd = 2)) := by
  obtain ⟨rfl, he⟩ | ⟨rfl, he⟩ | ⟨rfl, he⟩ | ⟨rfl, he⟩ | ⟨-, he⟩ := triggerOf_cases tcmd <;> rw [he] at hc <;> cases hc
  · exact .inr ⟨rfl, .inl rfl⟩
  · exact .inl ⟨rfl, .inl rfl⟩
  · exact .inr ⟨rfl, .inr rfl⟩
  · exact .inl ⟨rfl, .inr rfl⟩

/-- R193: a trigger that sends Start leaves Running, with the flag set. -/
theorem Stream.trigger_of_start {c : Trigger} (h : c.request = .start) (t : Stream) :
    t.trigger c = { t with running := true, state := .running } := by
  cases c with
  | start => rfl
  | resume => rfl
  | stop => cases h
  | pause => cases h

/-! ## Invariants, command by command -/

section
variable {s t : State} {i : Instr}

theorem CommandRun.lines_idle (h : CommandRun s i t) (hs : s.lines.idle) : t.lines.idle := by
  cases h with
  | transferred vs n => exact Lines.idle_after_transferEvents hs _ _ _
  | _ => exact hs

/-- R8: no command changes the parameters. -/
theorem CommandRun.params (h : CommandRun s i t) : t.params = s.params := by
  cases h <;> rfl

/-- R25: a transfer's command writes an entry of SHADOW, or none. -/
theorem TransferEnd.length_shadow {sh : List Half} {u : List Nat} (h : TransferEnd s i sh u) :
    sh.length = s.shadow.length := by
  cases h with
  | committed => exact List.length_set
  | _ => rfl

/-- R34: a transfer's command keeps the form of UNKNOWN. -/
theorem TransferEnd.unknownValid {sh : List Half} {u : List Nat} (h : TransferEnd s i sh u) (hs : s.unknownValid) :
    risingAddrs u ∧ ∀ a ∈ u, a < s.params.regCount := by
  obtain ⟨hrising, hvalid⟩ := hs
  cases h with
  | sent => exact ⟨hrising, hvalid⟩
  | committed a v =>
    exact ⟨removeAddr_rising _ _ hrising, fun b hb => hvalid b ((mem_removeAddr _ _ _).mp hb).1⟩
  | linkFailed a v ha =>
    refine ⟨insertAddr_rising _ _ hrising, fun b hb => ?_⟩
    obtain rfl | hb := (mem_insertAddr _ _ _).mp hb
    · exact ha
    · exact hvalid b hb

theorem CommandRun.length_shadow (h : CommandRun s i t) : t.shadow.length = s.shadow.length := by
  cases h with
  | transferred vs n e hend => exact hend.length_shadow
  | _ => rfl

theorem CommandRun.unknownValid (h : CommandRun s i t) (hs : s.unknownValid) : t.unknownValid := by
  cases h with
  | transferred vs n e hend => exact hend.unknownValid hs
  | _ => exact hs

/-- R234: a command that sets DESC_LOADED loads the channel, and no other touches either. -/
theorem CommandRun.loadedAgrees (h : CommandRun s i t) (hs : s.loadedAgrees) : t.loadedAgrees := by
  cases h with
  | recorded he hloaded => exact hs.trans hloaded.symm
  | prepared => rfl
  | triggered tcmd c => cases c <;> exact hs
  | restarted => rfl
  | _ => exact hs

/-- R206: a command that leaves the stream out of Running did not leave Start as the last request. -/
theorem CommandRun.stoppedWhenNotRunning (h : CommandRun s i t) (hinv : s.stream.inv) (hs : s.stoppedWhenNotRunning) :
    t.stoppedWhenNotRunning := by
  obtain ⟨⟨hrun, -⟩, -⟩ := hinv
  intro hstate
  cases h with
  | transferred vs n =>
    rw [lastRequest_append, lastRequest_of_lineEvents (transferEvents_lineEvents _ _ _)]
    exact hs hstate
  | recorded he hloaded hkept => exact hs (hkept hstate)
  | prepared => simp [lastRequest_append, lastRequest]
  | triggered tcmd c hc =>
    rw [lastRequest_append]
    obtain ⟨hrequest, -⟩ | ⟨hrequest, -⟩ := triggerOf_code hc
    · rw [Stream.trigger_of_start hrequest] at hstate
      exact absurd rfl hstate
    · rw [hrequest]
      exact nofun
  | restarted hn hr => exact absurd (hrun.mp hr) hstate
  | _ => exact hs hstate

/-- R84: what the command makes of the stream record. -/
theorem CommandRun.stream (h : CommandRun s i t) : s.stream.CommandEffect i t.stream := by
  cases h with
  | recorded he => exact he
  | prepared h => exact .prepared h
  | triggered tcmd c hc h => exact .triggered tcmd c hc h
  | restarted hn hr =>
    have hloaded : (s.stream.running || s.stream.descLoaded) = true := by rw [hr, Bool.true_or]
    exact hloaded ▸ Stream.CommandEffect.acknowledged hn
  | _ => exact .kept _

/-- R235: no command changes ELAPSED. -/
theorem Stream.CommandEffect.elapsed {t u : Stream} (he : t.CommandEffect i u) : u.elapsed = t.elapsed := by
  cases he with
  | triggered tcmd c => cases c <;> rfl
  | _ => rfl

/-- R234: the only command that records the model fault. -/
theorem CommandRun.modelFault (h : CommandRun s i t) :
    t.modelFault = s.modelFault ∨
      (s.modelFault = none ∧ s.channel.loaded = false ∧ ∃ c : BitVec 4, i = .dmaTrigger c ∧ (c = 1 ∨ c = 3)) := by
  cases h with
  | triggered tcmd c hc =>
    obtain ⟨hrequest, hcode⟩ | ⟨hrequest, -⟩ := triggerOf_code hc
    · cases hloaded : s.channel.loaded
      · cases hfault : s.modelFault with
        | none => exact .inr ⟨rfl, rfl, tcmd, rfl, hcode⟩
        | some f => exact .inl (Option.some_or (o := s.channel.faultOf c.request))
      · exact .inl (by rw [hrequest, Channel.faultOf, if_pos hloaded, Option.or_none])
    · exact .inl (by rw [hrequest, Channel.faultOf, Option.or_none])
  | _ => exact .inl rfl

/-- R34: no other move sets DESC_LOADED. -/
theorem Stream.MoveEffect.descLoaded {t u : Stream} (h : t.MoveEffect u) : u.descLoaded = t.descLoaded := by
  cases h <;> rfl

theorem Stream.MoveEffect.state {t u : Stream} (h : t.MoveEffect u) : u.state = t.state := by
  cases h <;> rfl

theorem Stream.MoveEffect.opened {t u : Stream} (h : t.MoveEffect u) : u.opened = t.opened := by
  cases h <;> rfl

theorem Stream.MoveEffect.running {t u : Stream} (h : t.MoveEffect u) : u.running = t.running := by
  cases h <;> rfl

end

/-! ## What every step keeps -/

/-- Settles O28: a transfer ends with CLK and MODE high, and a reset raises both. -/
theorem linesIdleKept : Obligations.LinesIdleKept := by
  intro s t hs h
  cases step_effect h with
  | reset p u _ _ ht => exact ht ▸ ⟨rfl, rfl⟩
  | quiet e _ hq => exact hq.lines ▸ hs
  | command i rest _ hrun => exact hrun.lines_idle hs

/-- R250: the parts of the reset state that R25, R34 and R234 speak of. -/
theorem State.resetInput_carried (p : Bool) {u : State} (hp : u.params.wf) :
    (u.resetInput p).shadowSized ∧ (u.resetInput p).unknownValid ∧ (u.resetInput p).loadedAgrees := by
  obtain ⟨-, -, -, -, -, -, hdefaults⟩ := hp
  refine ⟨hdefaults, ⟨unknownAtReset_rising _ _, fun a ha => ?_⟩, rfl⟩
  cases p
  · exact List.mem_range.mp ha
  · cases ha

/-- Settles O55: a command writes an entry of SHADOW and a valid address of UNKNOWN, and loads a descriptor where it sets
DESC_LOADED. -/
theorem carriedStateInvariantKept : Obligations.CarriedStateInvariantKept := by
  intro s t hp hshadow hunknown hloaded h
  cases step_effect h with
  | reset p u _ hu ht =>
    subst ht
    exact ⟨hu.params, State.resetInput_carried p (hu.params.symm ▸ hp)⟩
  | quiet e _ hq =>
    refine ⟨hq.params, ?_, ?_, ?_⟩
    · rw [State.shadowSized, hq.shadow, hq.params]
      exact hshadow
    · rw [State.unknownValid, hq.unknown, hq.params]
      exact hunknown
    · rw [State.loadedAgrees, hq.loaded, hq.stream.descLoaded]
      exact hloaded
  | command i rest _ hrun =>
    refine ⟨hrun.params, ?_, hrun.unknownValid hunknown, hrun.loadedAgrees hloaded⟩
    rw [State.shadowSized, hrun.length_shadow, hrun.params]
    exact hshadow

/-- Settles O56: a request that is the last one sent comes with the state it leaves the stream in; a notification is none. -/
theorem stoppedWhenNotRunningKept : Obligations.StoppedWhenNotRunningKept := by
  intro s t hinv hs h
  cases step_effect h with
  | reset p u _ _ ht =>
    subst ht
    intro _
    simp [State.resetInput, lastRequest_append, lastRequest]
  | quiet e _ hq =>
    intro hstate
    have hlast := hs (hq.stream.state ▸ hstate)
    cases hq.completion with
    | uncounted htrace => rwa [htrace]
    | counted _ _ _ _ _ htrace => rwa [htrace, lastRequest_append]
  | command i rest _ hrun => exact hrun.stoppedWhenNotRunning hinv hs

/-- Settles O57: ELAPSED goes up by 1 with each notification, and both start again at a reset. -/
theorem elapsedCountKept : Obligations.ElapsedCountKept := by
  intro s t hs h
  cases step_effect h with
  | reset p u _ _ ht =>
    subst ht
    simp [State.elapsedCounts, State.resetInput, State.resetWith, Stream.atReset, notifications_append, notifications]
  | quiet e _ hq =>
    cases hq.completion with
    | uncounted htrace helapsed => rw [State.elapsedCounts, htrace, helapsed, hs]
    | counted _ _ _ _ hstream htrace =>
      rw [State.elapsedCounts, htrace, hstream, notifications_append]
      simp only [Stream.advance, notifications, BitVec.ofNat_add, ← hs]
      rfl
  | command i rest _ hrun =>
    obtain ⟨outs, htrace, -, houts⟩ := hrun.outputs
    rw [State.elapsedCounts, hrun.stream.elapsed, htrace, notifications_append, notifications_of_commandOutputs houts]
    exact hs

/-- Settles O27: a wait of a command lasts as long as W gives, and a reset cuts a command between its outputs. -/
theorem emittedWaitsArePositive : Obligations.EmittedWaitsArePositive := by
  intro s t hs h
  rw [waitsPositive_iff] at hs ⊢
  have happend {outs : List Output} (houts : ∀ o ∈ outs, commandOutput o) (n : Nat) (hn : .wait n ∈ s.trace ++ outs) :
      1 ≤ n := (List.mem_append.mp hn).elim (hs n) (houts _)
  intro n hn
  cases step_effect h with
  | reset p u _ hu ht =>
    obtain ⟨outs, htrace, houts⟩ := hu.outputs
    subst ht
    have hu' : Output.wait n ∈ s.trace ++ outs := by simpa [State.resetInput, htrace] using hn
    exact happend houts n hu'
  | quiet e _ hq =>
    cases hq.completion with
    | uncounted htrace => exact hs n (htrace ▸ hn)
    | counted _ _ _ _ _ htrace => exact hs n (by simpa [htrace] using hn)
  | command i rest _ hrun =>
    obtain ⟨outs, htrace, -, houts⟩ := hrun.outputs
    exact happend houts n (htrace ▸ hn)

/-! ## Where a step's changes come from -/

/-- Settles O45: only a command records the fault, be it kept or cut by a reset. -/
theorem faultOnlyFromUnloadedTrigger : Obligations.FaultOnlyFromUnloadedTrigger := by
  intro s t hloaded h
  have hcommand {i : Instr} {rest : List Event} {u : State} (hi : s.nextCommand = some i)
      (hrun : CommandRun { s with inputs := rest } i u) :
      u.modelFault = s.modelFault ∨ (s.modelFault = none ∧ s.stream.descLoaded = false ∧
        ∃ c : BitVec 4, s.nextCommand = some (.dmaTrigger c) ∧ (c = 1 ∨ c = 3)) :=
    hrun.modelFault.imp_right fun ⟨hnone, hl, c, hc, hcode⟩ => ⟨hnone, hloaded.symm.trans hl, c, hc ▸ hi, hcode⟩
  suffices hfault : t.modelFault = s.modelFault ∨ (s.modelFault = none ∧ s.stream.descLoaded = false ∧
      ∃ c : BitVec 4, s.nextCommand = some (.dmaTrigger c) ∧ (c = 1 ∨ c = 3)) by
    obtain hkept | ⟨hnone, horigin⟩ := hfault
    · exact ⟨fun _ => hkept, fun hnone hnew => absurd (hkept.trans hnone) hnew⟩
    · exact ⟨fun hsome => absurd hnone hsome, fun _ _ => horigin⟩
  cases step_effect h with
  | reset p u _ hu ht =>
    subst ht
    obtain hkept | ⟨hnone, i, rest, ran, hi, hrun, hran⟩ := hu.modelFault
    · exact .inl hkept
    · exact .inr ((hcommand hi hrun).resolve_left fun hkept => hran (hkept.trans hnone))
  | quiet e _ hq => exact .inl hq.modelFault
  | command i rest hi hrun => exact hcommand hi hrun

/-- R200: the commands that send Start. -/
theorem CommandRun.start_mem_outputs {s t : State} {i : Instr} (h : CommandRun s i t) (hinv : s.stream.inv)
    {outs : List Output} (htrace : t.trace = s.trace ++ outs) (hstart : .dma .start ∈ outs) :
    t.stream.state = .running ∧
      ((∃ c : BitVec 4, i = .dmaTrigger c ∧ (c = 1 ∨ c = 3)) ∨
        (i = .periodAck ∧ s.stream.notify = true ∧ s.stream.running = true)) := by
  obtain ⟨⟨hrun, -⟩, -⟩ := hinv
  have hsilent (hkept : t.trace = s.trace) : False := by
    rw [hkept, List.self_eq_append_right] at htrace
    exact List.not_mem_nil (htrace ▸ hstart)
  cases h with
  | transferred vs n =>
    obtain rfl := List.append_cancel_left htrace
    exact absurd (List.all_eq_true.mp (transferEvents_lineEvents _ _ _) _ hstart) Bool.false_ne_true
  | prepared =>
    obtain rfl := List.append_cancel_left htrace
    simp at hstart
  | triggered tcmd c hc =>
    obtain rfl := List.append_cancel_left htrace
    obtain ⟨hrequest, hcode⟩ | ⟨hrequest, -⟩ := triggerOf_code hc
    · exact ⟨by rw [Stream.trigger_of_start hrequest], .inl ⟨tcmd, rfl, hcode⟩⟩
    · simp [hrequest] at hstart
  | restarted hn hr => exact ⟨hrun.mp hr, .inr ⟨rfl, hn, hr⟩⟩
  | _ => exact (hsilent rfl).elim

/-- Settles O58: outside reset only a command sends requests, and a notification is no Start. -/
theorem startRequestOrigin : Obligations.StartRequestOrigin := by
  intro s t hinv h hreset hstart
  cases step_effect h with
  | reset p u hnext => exact absurd (hreset.symm.trans hnext) Bool.false_ne_true
  | quiet e _ hq =>
    cases hq.completion with
    | uncounted htrace => simp [State.newOutputs, htrace] at hstart
    | counted _ _ _ _ _ htrace => simp [State.newOutputs, htrace] at hstart
  | command i rest hi hrun =>
    obtain ⟨outs, htrace, -, -⟩ := hrun.outputs
    have hmem : .dma .start ∈ outs := by simpa [State.newOutputs, htrace] using hstart
    rw [hi]
    simpa using hrun.start_mem_outputs hinv htrace hmem

/-- R201: the commands that clear the running flag of a running stream. -/
theorem Stream.CommandEffect.running_cleared {t u : Stream} {i : Instr} (he : t.CommandEffect i u) (hinv : t.inv)
    (ht : t.running = true) (hu : u.running = false) : ∃ c : BitVec 4, i = .dmaTrigger c ∧ (c = 0 ∨ c = 2) := by
  obtain ⟨⟨hrun, -⟩, -⟩ := hinv
  have hstate : t.state = .running := hrun.mp ht
  have hkept (h : u.running = t.running) : False := Bool.false_ne_true (hu.symm.trans (h.trans ht))
  cases he with
  | kept => exact (hkept rfl).elim
  | opened => exact (hkept rfl).elim
  | closed h =>
    obtain ⟨-, hnot, -⟩ := t.refusesClose_eq_false.mp h
    exact absurd hstate hnot
  | configured => exact (hkept rfl).elim
  | prepared h => simp [Stream.refusesPrepare, hstate] at h
  | triggered tcmd c hc =>
    obtain ⟨hrequest, -⟩ | ⟨-, hcode⟩ := triggerOf_code hc
    · rw [Stream.trigger_of_start hrequest] at hu
      cases hu
    · exact ⟨tcmd, rfl, hcode⟩
  | acknowledged => exact (hkept rfl).elim

/-- Settles O59: no move but a command writes the running flag. -/
theorem runningClearedOnlyByTriggers : Obligations.RunningClearedOnlyByTriggers := by
  intro s t hinv h hreset hs ht
  obtain ⟨hnext, -⟩ | hmove | ⟨i, hi, hcmd⟩ := step_stream_cases h
  · exact absurd (hreset.symm.trans hnext) Bool.false_ne_true
  · exact absurd (ht.symm.trans (hmove.running.trans hs)) Bool.false_ne_true
  · rw [hi]
    simpa using hcmd.running_cleared hinv hs ht

/-- R224: the only command that changes NOTIFY lowers it. -/
theorem Stream.CommandEffect.notify {t u : Stream} {i : Instr} (he : t.CommandEffect i u) :
    u.notify = t.notify ∨ (i = .periodAck ∧ u.notify = false) := by
  cases he with
  | triggered tcmd c => cases c <;> exact .inl rfl
  | acknowledged => exact .inr ⟨rfl, rfl⟩
  | _ => exact .inl rfl

/-- Settles O60: a command can only lower PERIOD_IRQ, and any other move can only raise it, by an effective completion. -/
theorem periodIrqMoves : Obligations.PeriodIrqMoves := by
  intro s t h hreset
  simp only [State.periodIrq]
  cases step_effect h with
  | reset p u hnext => exact absurd (hreset.symm.trans hnext) Bool.false_ne_true
  | quiet e _ hq =>
    cases hq.completion with
    | uncounted _ _ hnotify =>
      rw [hnotify]
      exact ⟨fun hs ht => absurd (ht.symm.trans hs) Bool.false_ne_true,
        fun hs ht => absurd (hs.symm.trans ht) Bool.false_ne_true⟩
    | counted hp ho hn htaken hstream =>
      rw [hstream, hn]
      exact ⟨nofun, fun _ _ => ⟨hp, ho, htaken, rfl⟩⟩
  | command i rest hi hrun =>
    obtain hkept | ⟨rfl, hlow⟩ := hrun.stream.notify
    · rw [hkept]
      exact ⟨fun hs ht => absurd (ht.symm.trans hs) Bool.false_ne_true,
        fun hs ht => absurd (hs.symm.trans ht) Bool.false_ne_true⟩
    · exact ⟨fun _ _ => hi, fun _ ht => absurd (hlow.symm.trans ht) Bool.false_ne_true⟩

/-- Settles O20: how a command can end. -/
theorem commandsRaiseOnlyTheirErrors : Obligations.CommandsRaiseOnlyTheirErrors := by
  intro i s t hi h
  cases exec_end h with
  | completed hok => exact .inl hok
  | raised e he ht => exact .inr (ht ▸ he hi)
  | linkFailed he hlink => exact .inr (hlink ▸ he)

/-- R109: a word always ends in a next state. -/
theorem executeWord_next (w : Word) (s : State) : ∃ t, executeWord w s = .next t := by
  obtain ⟨i, -, hx⟩ | ⟨r, -, hx⟩ := executeWord_cases w s
  · exact hx ▸ exec_next i s
  · exact ⟨_, hx⟩

/-- Settles O9: the outcome of a word is kept, or made that of a reset. -/
theorem everyStepAnswersNextState : Obligations.EveryStepAnswersNextState := by
  intro s
  unfold step
  split
  · exact ⟨_, rfl⟩
  · next e rest _ =>
    split
    · exact ⟨_, rfl⟩
    · next w _ =>
      obtain ⟨t, ht⟩ := executeWord_next w { s with inputs := rest }
      rw [ht]
      unfold settleCommand
      split <;> exact ⟨_, rfl⟩

/-! ## Each register and its writers (R24, R25, R31, R106, R132) -/

section
variable {s t : State} {i : Instr}

/-- R145, R129: the commands that send a transfer. -/
theorem TransferEnd.writeReg_or_xmit {sh : List Half} {u : List Nat} (h : TransferEnd s i sh u) :
    (∃ a v, i = .writeReg a v) ∨ ∃ len b0 b1 b2, i = .xmit len b0 b1 b2 := by
  cases h with
  | sent len b0 b1 b2 => exact .inr ⟨len, b0, b1, b2, rfl⟩
  | committed a v => exact .inl ⟨a, v, rfl⟩
  | linkFailed a v => exact .inl ⟨a, v, rfl⟩

theorem CommandRun.shadow (h : CommandRun s i t) : t.shadow = s.shadow ∨ ∃ a v, i = .writeReg a v := by
  cases h with
  | transferred vs n e hend =>
    cases hend with
    | sent => exact .inl rfl
    | committed a v => exact .inr ⟨a, v, rfl⟩
    | linkFailed => exact .inl rfl
  | _ => exact .inl rfl

theorem CommandRun.result0 (h : CommandRun s i t) :
    t.result0 = s.result0 ∨ i = .pllCalc ∨ i = .dmaPointer ∨ (∃ a, i = .readReg a) ∨ (∃ a v, i = .writeReg a v) ∨
      ∃ len b0 b1 b2, i = .xmit len b0 b1 b2 := by
  cases h with
  | read a => exact .inr (.inr (.inr (.inl ⟨a, rfl⟩)))
  | pointed => exact .inr (.inr (.inl rfl))
  | calculated => exact .inr (.inl rfl)
  | transferred vs n e hend => exact .inr (.inr (.inr (.inr hend.writeReg_or_xmit)))
  | _ => exact .inl rfl

theorem CommandRun.result1_result2 (h : CommandRun s i t) :
    (t.result1 = s.result1 ∧ t.result2 = s.result2) ∨ i = .pllCalc := by
  cases h with
  | calculated => exact .inr rfl
  | _ => exact .inl ⟨rfl, rfl⟩

theorem CommandRun.lines (h : CommandRun s i t) :
    t.lines = s.lines ∨ (∃ a v, i = .writeReg a v) ∨ ∃ len b0 b1 b2, i = .xmit len b0 b1 b2 := by
  cases h with
  | transferred vs n e hend => exact .inr hend.writeReg_or_xmit
  | _ => exact .inl rfl

/-- R199: no command clears a sticky bit. -/
theorem Stream.CommandEffect.sticky {t u : Stream} (he : t.CommandEffect i u) :
    u.overrun = t.overrun ∧ u.stray = t.stray := by
  cases he with
  | triggered tcmd c => cases c <;> exact ⟨rfl, rfl⟩
  | _ => exact ⟨rfl, rfl⟩

/-- R24, R31, R66, R199: no command writes the registers that only a host write changes. -/
theorem CommandRun.registers (h : CommandRun s i t) : HostRegistersKept s t := by
  obtain ⟨hoverrun, hstray⟩ := h.stream.sticky
  refine ⟨?_, ?_, ?_, ?_, fun hs => hoverrun.trans hs, fun hs => hstray.trans hs⟩ <;> cases h <;> rfl

end

/-- Outside reset the registers that only a host write changes change by one that the map decodes, and as it says. -/
theorem step_registers {s t : State} (h : step s = .next t) (hreset : s.nextIsReset = false) :
    HostRegistersKept s t ∨ ∃ addr bytes rest o w u, s.inputs = .write addr bytes :: rest ∧
      decodedWrite s.params addr bytes = some (o, w) ∧ HostRegistersKept s u ∧ t = u.writeRegister o w := by
  cases step_effect h with
  | reset p u hnext => exact absurd (hreset.symm.trans hnext) Bool.false_ne_true
  | quiet e he hq =>
    obtain hkept | ⟨addr, bytes, o, w, u, rfl, hw, hu, ht⟩ := hq.registers
    · exact .inl hkept
    · obtain ⟨rest, hi⟩ := he.resolve_left (by simp)
      exact .inr ⟨addr, bytes, rest, o, w, u, hi, hw, hu, ht⟩
  | command i rest hi hrun => exact .inl hrun.registers.of_inputs

/-- R24, R31: outside reset a register that is one of those changes only by a host write to its own offset `o`. -/
theorem step_register {s t : State} {α : Type} (read : State → α) (o : Byte) (h : step s = .next t)
    (hreset : s.nextIsReset = false) (hkept : ∀ {u}, HostRegistersKept s u → read u = read s)
    (hother : ∀ (u : State) o' w, o' ≠ o → read (u.writeRegister o' w) = read u) :
    read t = read s ∨ ∃ addr bytes rest w, s.inputs = .write addr bytes :: rest ∧
      decodedWrite s.params addr bytes = some (o, w) := by
  obtain hk | ⟨addr, bytes, rest, o', w, u, hi, hw, hu, rfl⟩ := step_registers h hreset
  · exact .inl (hkept hk)
  · by_cases ho : o' = o
    · exact .inr ⟨addr, bytes, rest, w, hi, ho ▸ hw⟩
    · exact .inl ((hother u o' w ho).trans (hkept hu))

/-- Settles O21: a command by its outcomes, a host write by its offset, and no other move writes any of these registers. -/
theorem registersChangeOnlyByTheirWriters : Obligations.RegistersChangeOnlyByTheirWriters := by
  intro s t h hreset
  have hargs : ∀ o before after, (o, before, after) ∈ ([(0x04, s.arg0, t.arg0), (0x08, s.arg1, t.arg1),
      (0x0C, s.arg2, t.arg2)] : List (Byte × Word × Word)) → after = before ∨ ∃ addr bytes rest w,
        s.inputs = .write addr bytes :: rest ∧ decodedWrite s.params addr bytes = some (o, w) := by
    intro o before after hmem
    simp only [List.mem_cons, Prod.mk.injEq, List.not_mem_nil, or_false] at hmem
    obtain ⟨rfl, rfl, rfl⟩ | ⟨rfl, rfl, rfl⟩ | ⟨rfl, rfl, rfl⟩ := hmem
    · exact step_register (·.arg0) 0x04 h hreset (·.arg0) fun u o w ho => by rw [State.writeRegister_eq]; exact if_neg ho
    · exact step_register (·.arg1) 0x08 h hreset (·.arg1) fun u o w ho => by rw [State.writeRegister_eq]; exact if_neg ho
    · exact step_register (·.arg2) 0x0C h hreset (·.arg2) fun u o w ho => by rw [State.writeRegister_eq]; exact if_neg ho
  have htiming : ∀ o before after, (o, before, after) ∈ ([(0x20, s.timing.ds, t.timing.ds),
      (0x24, s.timing.dh, t.timing.dh), (0x28, s.timing.ch, t.timing.ch), (0x2C, s.timing.mh, t.timing.mh),
      (0x30, s.timing.ms, t.timing.ms)] : List (Byte × Half × Half)) → after = before ∨ ∃ addr bytes rest w,
        s.inputs = .write addr bytes :: rest ∧ decodedWrite s.params addr bytes = some (o, w) := by
    intro o before after hmem
    simp only [List.mem_cons, Prod.mk.injEq, List.not_mem_nil, or_false] at hmem
    have hfield (o : Byte) (field : Timing → Half)
        (hother : ∀ (u : State) o' w, o' ≠ o → field (u.writeRegister o' w).timing = field u.timing) :=
      step_register (field ·.timing) o h hreset (fun hk => congrArg field hk.timing) hother
    obtain ⟨rfl, rfl, rfl⟩ | ⟨rfl, rfl, rfl⟩ | ⟨rfl, rfl, rfl⟩ | ⟨rfl, rfl, rfl⟩ | ⟨rfl, rfl, rfl⟩ := hmem
    · exact hfield 0x20 (·.ds) fun u o w ho => by rw [State.writeRegister_eq]; exact if_neg ho
    · exact hfield 0x24 (·.dh) fun u o w ho => by rw [State.writeRegister_eq]; exact if_neg ho
    · exact hfield 0x28 (·.ch) fun u o w ho => by rw [State.writeRegister_eq]; exact if_neg ho
    · exact hfield 0x2C (·.mh) fun u o w ho => by rw [State.writeRegister_eq]; exact if_neg ho
    · exact hfield 0x30 (·.ms) fun u o w ho => by rw [State.writeRegister_eq]; exact if_neg ho
  cases step_effect h with
  | reset p u hnext => exact absurd (hreset.symm.trans hnext) Bool.false_ne_true
  | quiet e _ hq =>
    exact ⟨.inl hq.shadow, .inl hq.result0, .inl ⟨hq.result1, hq.result2⟩, hargs, htiming, .inl hq.lines⟩
  | command i rest hi hrun =>
    simp only [hi, Option.some.injEq]
    exact ⟨hrun.shadow, hrun.result0, hrun.result1_result2, hargs, htiming, hrun.lines⟩

end Sys2Proof.Machine
end

section
/-! PROOF. What the commands do: the serial commands with the lines they leave (41_serial_link.md R129, 42_shadow_registers.md
R145, R152), and the stream commands (44_dma_sequencer.md R186 to R195). -/

namespace Sys2Proof.Machine

open Sys2Proof.Laws

/-! ## The lines after a transfer, by its last byte -/

/-- R122: the last bit sent is bit 0 of the last byte. -/
theorem getLastD_sentBits (vs : List Byte) {a : Nat} (h : a ≤ vs.length) (d : Bool) :
    (sentBits vs a).getLastD d = if a = 0 then d else (vs.getD (a - 1) 0).getLsbD 0 := by
  cases a with
  | zero => rw [sentBits_zero, if_pos rfl, List.getLastD_nil]
  | succ a =>
    have hlast (v : Byte) : bitsMsbFirst v = [7, 6, 5, 4, 3, 2, 1].map v.getLsbD ++ [v.getLsbD 0] := rfl
    rw [sentBits_succ vs h, hlast, ← List.append_assoc, List.getLastD_concat, if_neg (Nat.succ_ne_zero a)]
    rfl

/-- R124, R127, R132: a transfer of which `a` bytes are accepted. -/
theorem Lines.after_transferEvents_of_le (l : Lines) (t : Timing) (vs : List Byte) {a : Nat} (h : a ≤ vs.length) :
    l.after (transferEvents t vs a) =
      { clk := if a = 0 then l.clk else true
        dat := if a = 0 then l.dat else (vs.getD (a - 1) 0).getLsbD 0
        mode := true } := by
  have hempty : sentBits vs a = [] ↔ a = 0 := by
    rw [← List.length_eq_zero_iff, length_sentBits vs h]
    omega
  rw [Lines.after_transferEvents, getLastD_sentBits vs h]
  simp only [hempty]

/-! ## XMIT (R129) -/

/-- R126, R129: the number of bytes XMIT sends. -/
theorem length_xmitBytes {len : BitVec 2} (hlen : len ≠ 3) (b0 b1 b2 : Byte) :
    (xmitBytes len b0 b1 b2).length = 1 + len.toNat := by
  have hlt := len.isLt
  have hne : len.toNat ≠ 3 := fun h => hlen (BitVec.eq_of_toNat_eq h)
  rw [xmitBytes, List.length_take, List.length_cons, List.length_cons, List.length_singleton]
  omega

/-- Settles O22, by what a raw transmission does and the lines it leaves. -/
theorem xmitSendsAndCounts : Obligations.XmitSendsAndCounts := by
  intro len b0 b1 b2 a s hlen hnone hsome vs
  have hvs : vs.length = 1 + len.toNat := length_xmitBytes hlen b0 b1 b2
  have haccepted : acceptedBytes vs.length s.linkFaultAt = a := by
    rw [hvs]
    cases hf : s.linkFaultAt with
    | none => exact (hnone hf).symm
    | some k => exact (hsome k hf).symm
  have hle : a ≤ vs.length := haccepted ▸ acceptedBytes_le _ _
  have hexec : exec (.xmit len b0 b1 b2) s = .next (s.sendRaw vs) := congrArg Host.Outcome.next (if_neg hlen)
  rw [hexec, State.sendRaw_eq, haccepted, Lines.after_transferEvents_of_le _ _ _ hle]

/-! ## WRITE_REG (R145) -/

/-- R141, R142: byte0 is a[6:0] above the address bit of the value, or above 1 for a quirk register. -/
theorem frameByte0_eq_append (p : Params) (a : Byte) (v : Half) :
    frameByte0 p a v = a.extractLsb' 0 7 ++ BitVec.ofBool (isQuirk p a || v.getLsbD 8) := by
  have happend (k : Nat) : (a.extractLsb' 0 7 ++ BitVec.ofBool (isQuirk p a || v.getLsbD 8)).getLsbD k =
      if k < 1 then (BitVec.ofBool (isQuirk p a || v.getLsbD 8)).getLsbD k else (a.extractLsb' 0 7).getLsbD (k - 1) :=
    BitVec.getLsbD_append
  refine BitVec.eq_of_getLsbD_eq fun k hk => ?_
  rw [happend]
  cases k with
  | zero => rw [frameByte0_getLsbD_zero, if_pos Nat.one_pos, BitVec.getLsbD_ofBool]; rfl
  | succ k =>
    have hk7 : k < 7 := by omega
    rw [frameByte0_getLsbD_succ p a v hk7]
    simp [hk7]

/-- R141, R142: byte0 as a number. -/
theorem frameByte0_toNat {p : Params} (hp : p.wf) {a : Byte} (ha : a.toNat < p.regCount) (v : Half) :
    (frameByte0 p a v).toNat =
      2 * a.toNat + (if a.toNat = p.quirkHPL ∨ a.toNat = p.quirkHPR then 1 else v.toNat / 2 ^ 8 % 2) := by
  obtain ⟨-, hcount, -⟩ := hp
  have hbit : (BitVec.ofBool (isQuirk p a || v.getLsbD 8)).toNat =
      if a.toNat = p.quirkHPL ∨ a.toNat = p.quirkHPR then 1 else v.toNat / 2 ^ 8 % 2 := by
    rw [isQuirk_eq_decide]
    split
    · next hq => simp [hq]
    · next hq => rw [decide_eq_false hq, Bool.false_or, BitVec.toNat_ofBool, BitVec.getLsbD, Nat.toNat_testBit]
  rw [frameByte0_eq_append, append_toNat, extract_toNat, hbit]
  omega

/-- R141: byte1 as a number. -/
theorem frameByte1_toNat (v : Half) : (frameByte1 v).toNat = v.toNat % 2 ^ 8 := by
  rw [frameByte1, extract_toNat, pow_zero, Nat.div_one]

/-- Settles O29, by what a register write does with its frame accepted in full. -/
theorem writeRegCommitsFullFrame : Obligations.WriteRegCommitsFullFrame := by
  intro a v s hp ha hlink
  refine ⟨_, _, frameByte0_toNat hp ha v, frameByte1_toNat v, ?_⟩
  rw [exec_writeReg_valid v ha, State.writeThrough_full s a v (acceptedBytes_eq_of_le hlink),
    Lines.after_transferEvents_of_le _ _ _ (Nat.le_refl 2)]
  rfl

/-- Settles O30, by what a register write does with its frame cut short: at its start, or after byte0. -/
theorem shortLinkLeavesShadow : Obligations.ShortLinkLeavesShadow := by
  intro a v k s hp ha hlink hk
  have haccepted : acceptedBytes 2 s.linkFaultAt = k := by rw [hlink]; exact Nat.min_eq_left (Nat.le_of_lt hk)
  have hshort := State.writeThrough_short s a v (by omega)
  rw [haccepted] at hshort
  refine ⟨_, _, _, frameByte0_toNat hp ha v, frameByte1_toNat v, exec_writeReg_valid v ha, ?_, ?_⟩ <;> rw [hshort]
  · exact fun x => mem_insertAddr _ _ _
  · have hlines := s.lines.after_transferEvents_of_le s.timing (frame s.params a v) (a := k) (Nat.le_of_lt hk)
    rw [hlines]
    obtain rfl | rfl : k = 0 ∨ k = 1 := by omega
    · rfl
    · rfl

/-! ## The stream commands (R186 to R195) -/

/-- Settles O41, by whether the stream refuses the command. -/
theorem dmaOpenAndCloseResult : Obligations.DmaOpenAndCloseResult := by
  intro s
  refine ⟨fun ho => ?_, fun ho => ?_, fun ho hstate hn => ?_, fun h => ?_⟩
  · rw [exec, execDmaOpen, if_neg (by simp [ho])]
    rfl
  · rw [exec, execDmaOpen, if_pos ho]
    rfl
  · rw [exec, execDmaClose, if_neg (by simp [s.stream.refusesClose_eq_false.mpr ⟨ho, hstate, hn⟩])]
    rfl
  · have hr : s.stream.refusesClose = true := by simpa [Stream.refusesClose, or_assoc] using h
    rw [exec, execDmaClose, if_pos hr]
    rfl

/-- R182: half the bytes of a period. -/
theorem Stream.transferCount_eq (t : Stream) : t.transferCount = BitVec.ofNat 32 (t.period.toNat / 2) := by
  apply BitVec.eq_of_toNat_eq
  rw [Stream.transferCount, BitVec.toNat_udiv, BitVec.toNat_ofNat]
  have := t.period.isLt
  simp
  omega

/-- R183: the source address, truncated to 32 bits. -/
theorem Stream.source_eq (t : Stream) : t.source = BitVec.ofNat 32 (t.base.toNat + t.offset.toNat) := by
  rw [Stream.source, BitVec.ofNat_add, BitVec.ofNat_toNat, BitVec.ofNat_toNat, BitVec.setWidth_eq, BitVec.setWidth_eq]

/-- Settles O43, by whether the stream refuses the command, and what it writes. -/
theorem dmaPrepareResult : Obligations.DmaPrepareResult := by
  intro s
  refine ⟨fun ho hstate hc => ?_, fun h => ?_⟩
  · have hr : s.stream.refusesPrepare = false := by simp [Stream.refusesPrepare, ho, hstate, hc]
    have hsrc : Stream.source { s.stream with offset := 0, running := false } = s.stream.base := by simp [Stream.source]
    dsimp only
    rw [exec, execDmaPrepare, if_neg (by simp [hr]), State.prepareStream_eq, descriptorRequests, hsrc,
      ← Stream.transferCount_eq]
    rfl
  · have hr : s.stream.refusesPrepare = true := by simpa [Stream.refusesPrepare, or_assoc] using h
    rw [exec, execDmaPrepare, if_pos hr]
    rfl

section
variable {s : State} {tcmd : BitVec 4} {c : Trigger}

/-- R192: a trigger that the stream refuses. -/
theorem exec_dmaTrigger_refused (hc : triggerOf tcmd = some c) (hr : s.stream.refusesTrigger c = true) :
    exec (.dmaTrigger tcmd) s = .next { s with err := .invalidState } := by
  simp only [exec, execDmaTrigger, hc, hr, if_true]
  rfl

/-- R193: a trigger that acts. -/
theorem exec_dmaTrigger_accepted (hc : triggerOf tcmd = some c) (hr : s.stream.refusesTrigger c = false) :
    exec (.dmaTrigger tcmd) s =
      .next { s with
        stream := s.stream.trigger c
        channel := s.channel.request s.params.dmaLateDone c.request
        trace := s.trace ++ [.dma c.request]
        modelFault := s.modelFault.or (s.channel.faultOf c.request)
        err := .ok } := by
  simp only [exec, execDmaTrigger, hc, hr, Bool.false_eq_true, if_false]
  rfl

end

/-- R191: the four codes that are defined. -/
theorem triggerOf_defined {tcmd : BitVec 4} (h : tcmd.toNat < 4) : ∃ c, triggerOf tcmd = some c := by
  obtain ⟨-, hc⟩ | ⟨-, hc⟩ | ⟨-, hc⟩ | ⟨-, hc⟩ | ⟨hge, -⟩ := triggerOf_cases tcmd
  · exact ⟨_, hc⟩
  · exact ⟨_, hc⟩
  · exact ⟨_, hc⟩
  · exact ⟨_, hc⟩
  · omega

/-- R191: START and RESUME. -/
theorem triggerOf_starts {tcmd : BitVec 4} (h : tcmd.toNat = 1 ∨ tcmd.toNat = 3) :
    ∃ c, triggerOf tcmd = some c ∧ c.starts = true ∧ c.request = .start := by
  obtain h | h := h
  · exact ⟨.start, by simp [triggerOf, h], rfl, rfl⟩
  · exact ⟨.resume, by simp [triggerOf, h], rfl, rfl⟩

/-- R191: STOP and PAUSE. -/
theorem triggerOf_stops {tcmd : BitVec 4} (h : tcmd.toNat = 0 ∨ tcmd.toNat = 2) :
    ∃ c, triggerOf tcmd = some c ∧ c.starts = false ∧ c.request = .stop ∧
      ∀ t : Stream, t.trigger c = { t with running := false, state := if tcmd.toNat = 0 then .idle else .paused } := by
  obtain h | h := h
  · exact ⟨.stop, by simp [triggerOf, h], rfl, rfl, fun _ => by rw [if_pos h]; rfl⟩
  · exact ⟨.pause, by simp [triggerOf, h], rfl, rfl, fun _ => by rw [if_neg (by omega)]; rfl⟩

/-- Settles O44, by the code, then by what the stream refuses, then by whether a descriptor is loaded. -/
theorem dmaTriggerTable : Obligations.DmaTriggerTable := by
  intro tcmd s
  refine ⟨fun h => execDmaTrigger_undefined h s, fun hlt ho => ?_, fun h ho hn => ?_, fun h ho hn hl => ?_,
    fun h ho hn hl => ?_, fun h ho => ?_⟩
  · obtain ⟨c, hc⟩ := triggerOf_defined hlt
    exact exec_dmaTrigger_refused hc (by simp [Stream.refusesTrigger, ho])
  · obtain ⟨c, hc, hstarts, -⟩ := triggerOf_starts h
    exact exec_dmaTrigger_refused hc (by simp [Stream.refusesTrigger, hstarts, hn])
  · obtain ⟨c, hc, -, hrequest⟩ := triggerOf_starts h
    rw [exec_dmaTrigger_accepted hc (by simp [Stream.refusesTrigger, ho, hn]), Stream.trigger_of_start hrequest, hrequest,
      Channel.faultOf, if_pos hl, Option.or_none]
    rfl
  · obtain ⟨c, hc, -, hrequest⟩ := triggerOf_starts h
    refine ⟨_, exec_dmaTrigger_accepted hc (by simp [Stream.refusesTrigger, ho, hn]), ?_⟩
    have hfault : s.modelFault.or (some .dmaStartUnloaded) = some .dmaStartUnloaded := by
      cases s.modelFault with
      | none => rfl
      | some f => cases f; rfl
    rw [Stream.trigger_of_start hrequest, hrequest, Channel.faultOf, if_neg (by simp [hl]), hfault]
  · obtain ⟨c, hc, hstarts, hrequest, htrigger⟩ := triggerOf_stops h
    rw [exec_dmaTrigger_accepted hc (by simp [Stream.refusesTrigger, ho, hstarts]), hrequest, htrigger, Channel.faultOf,
      Option.or_none]
    rfl

/-- R194, C5: the clamped offset as a number. -/
theorem Stream.clampedOffset_toNat (t : Stream) :
    t.clampedOffset.toNat = if t.size.toNat ≤ t.offset.toNat then 0 else t.offset.toNat := by
  rw [Stream.clampedOffset, apply_ite BitVec.toNat]
  rfl

/-- R194: the frame count, whatever the offset is. -/
theorem Stream.framePointer_eq (t : Stream) :
    t.framePointer =
      BitVec.ofNat 32 ((if t.size.toNat ≤ t.offset.toNat then 0 else t.offset.toNat) / t.frameBytes.toNat) := by
  apply BitVec.eq_of_toNat_eq
  rw [Stream.framePointer, BitVec.toNat_udiv, Stream.clampedOffset_toNat, BitVec.toNat_setWidth_of_le (by decide),
    BitVec.toNat_ofNat, Nat.mod_eq_of_lt]
  refine lt_of_le_of_lt (Nat.div_le_self _ _) ?_
  rw [← Stream.clampedOffset_toNat]
  exact t.clampedOffset.isLt

/-- Settles O46, by whether the stream refuses the command. -/
theorem dmaPointerResult : Obligations.DmaPointerResult := by
  intro s
  refine ⟨fun ho hc _ => ?_, fun h => ?_⟩
  · rw [exec, execDmaPointer, if_neg (by simp [ho, hc]), Stream.framePointer_eq]
    rfl
  · rw [exec, execDmaPointer, if_pos (by simpa using h)]
    rfl

/-- Settles O48, by whether a notification is pending, and then by S.running. -/
theorem periodAckResult : Obligations.PeriodAckResult := by
  intro s
  refine ⟨fun hn hr => ?_, fun hn hr => ?_, fun hn => ?_⟩
  · rw [exec, execPeriodAck, if_pos hn, State.periodReturn_stopped s hr]
    rfl
  · dsimp only
    rw [exec, execPeriodAck, if_pos hn, State.periodReturn_running s hr, List.append_assoc, ← Stream.source_eq,
      ← Stream.transferCount_eq]
    rfl
  · rw [exec, execPeriodAck, if_neg (by simp [hn])]
    rfl

/-! ## What a command reads (R25, R71, R83, R104) -/

/-- The state with another count of delivered completions and another shadow. -/
def State.overlay (n : Nat) (h : List Half) (s : State) : State := { s with pending := n, shadow := h }

section
variable {s t : State} (n : Nat) (h : List Half)

theorem State.overlay_ite {p : Prop} [Decidable p] (a b : State) :
    (if p then a else b).overlay n h = if p then a.overlay n h else b.overlay n h := apply_ite (State.overlay n h) ..

/-- R195: the return from a notification neither reads nor writes them. -/
theorem State.periodReturn_overlay (s : State) : (s.overlay n h).periodReturn = s.periodReturn.overlay n h := by
  rw [State.periodReturn, State.periodReturn, State.overlay_ite]
  rfl

theorem exec_pllCalc_overlay (hx : exec .pllCalc s = .next t) :
    exec .pllCalc (s.overlay n h) = .next (t.overlay n h) := by
  by_cases hr : pllRefuses s.arg0.toNat s.arg1.toNat
  · obtain rfl := Host.Outcome.next.inj ((exec_pllCalc_refused hr).symm.trans hx)
    exact exec_pllCalc_refused (s := s.overlay n h) hr
  · obtain rfl := Host.Outcome.next.inj ((exec_pllCalc_accepted hr).symm.trans hx)
    exact exec_pllCalc_accepted (s := s.overlay n h) hr

theorem exec_dmaTrigger_overlay {tcmd : BitVec 4} (hx : exec (.dmaTrigger tcmd) s = .next t) :
    exec (.dmaTrigger tcmd) (s.overlay n h) = .next (t.overlay n h) := by
  cases hc : triggerOf tcmd with
  | none =>
    simp only [exec, execDmaTrigger, hc] at hx ⊢
    obtain rfl := Host.Outcome.next.inj hx
    rfl
  | some c =>
    cases hr : s.stream.refusesTrigger c
    · obtain rfl := Host.Outcome.next.inj ((exec_dmaTrigger_accepted hc hr).symm.trans hx)
      exact exec_dmaTrigger_accepted (s := s.overlay n h) hc hr
    · obtain rfl := Host.Outcome.next.inj ((exec_dmaTrigger_refused hc hr).symm.trans hx)
      exact exec_dmaTrigger_refused (s := s.overlay n h) hc hr

/-- R147: a register read neither reads nor writes the count. -/
theorem exec_readReg_overlay {a : Byte} (hx : exec (.readReg a) s = .next t) :
    exec (.readReg a) (s.overlay n s.shadow) = .next (t.overlay n s.shadow) := by
  obtain rfl := Host.Outcome.next.inj hx
  rw [State.overlay_ite]
  rfl

/-- R145: what a register write does with another shadow. -/
theorem exec_writeReg_overlay {a : Byte} {v : Half} (hx : exec (.writeReg a v) s = .next t) :
    ∃ h', exec (.writeReg a v) (s.overlay n h) = .next (t.overlay n h') ∧ (h = s.shadow → h' = t.shadow) := by
  obtain ha | ha := Nat.lt_or_ge a.toNat s.params.regCount
  · obtain rfl := Host.Outcome.next.inj ((exec_writeReg_valid v ha).symm.trans hx)
    rw [exec_writeReg_valid (s := s.overlay n h) v ha]
    by_cases hfull : acceptedBytes 2 s.linkFaultAt = 2
    · rw [State.writeThrough_full s a v hfull, State.writeThrough_full (s.overlay n h) a v hfull]
      exact ⟨h.set a.toNat v, rfl, fun hh => hh ▸ rfl⟩
    · rw [State.writeThrough_short s a v hfull, State.writeThrough_short (s.overlay n h) a v hfull]
      exact ⟨h, rfl, id⟩
  · obtain rfl := Host.Outcome.next.inj ((exec_writeReg_outOfRange v ha).symm.trans hx)
    exact ⟨h, exec_writeReg_outOfRange (s := s.overlay n h) v ha, id⟩

/-- R83: a command other than READ_REG and WRITE_REG neither reads nor writes them. -/
theorem exec_overlay {i : Instr} (hread : ∀ a, i ≠ .readReg a) (hwrite : ∀ a v, i ≠ .writeReg a v)
    (hx : exec i s = .next t) : exec i (s.overlay n h) = .next (t.overlay n h) := by
  cases i with
  | writeReg a v => exact absurd rfl (hwrite a v)
  | readReg a => exact absurd rfl (hread a)
  | pllCalc => exact exec_pllCalc_overlay n h hx
  | dmaTrigger tcmd => exact exec_dmaTrigger_overlay n h hx
  | nop =>
    obtain rfl := Host.Outcome.next.inj hx
    rfl
  | xmit len b0 b1 b2 =>
    obtain rfl := Host.Outcome.next.inj hx
    rw [State.overlay_ite, State.sendRaw_eq, exec, execXmit, State.sendRaw_eq]
    rfl
  | periodAck =>
    obtain rfl := Host.Outcome.next.inj hx
    rw [State.overlay_ite, exec, execPeriodAck, State.periodReturn_overlay]
    rfl
  | dmaHwParams fb =>
    obtain rfl := Host.Outcome.next.inj hx
    rw [State.overlay_ite, State.overlay_ite]
    rfl
  | _ =>
    obtain rfl := Host.Outcome.next.inj hx
    rw [State.overlay_ite]
    rfl

end

section
variable {s t : State} {i : Instr}

/-- R196: no command takes a delivered completion. -/
theorem CommandRun.pending (h : CommandRun s i t) : t.pending = s.pending := by
  cases h <;> rfl

/-- The moves still to come are as they were. -/
theorem CommandRun.inputs (h : CommandRun s i t) : t.inputs = s.inputs := by
  cases h <;> rfl

/-- R71, R104: a command does the same with any other count of delivered completions. -/
theorem exec_pending (hx : exec i s = .next t) (n : Nat) :
    exec i { s with pending := n } = .next { t with pending := n } := by
  change exec i (s.overlay n s.shadow) = .next (t.overlay n t.shadow)
  by_cases hwrite : ∃ a v, i = .writeReg a v
  · obtain ⟨a, v, rfl⟩ := hwrite
    obtain ⟨h', he, hkept⟩ := exec_writeReg_overlay n s.shadow hx
    rw [he, hkept rfl]
  · rw [(exec_run hx).shadow.resolve_right hwrite]
    by_cases hread : ∃ a, i = .readReg a
    · obtain ⟨a, rfl⟩ := hread
      exact exec_readReg_overlay n hx
    · exact exec_overlay n s.shadow (fun a hi => hread ⟨a, hi⟩) (fun a v hi => hwrite ⟨a, v, hi⟩) hx

end

/-- Settles O35: WRITE_REG writes the shadow without reading it, and the others do neither. -/
theorem shadowReadOnlyByReadReg : Obligations.ShadowReadOnlyByReadReg := by
  intro i h s t hread hx
  have hpending : t.pending = s.pending := (exec_run hx).pending
  suffices hrun : ∃ h', exec i (s.overlay s.pending h) = .next (t.overlay t.pending h') from hrun
  rw [hpending]
  by_cases hwrite : ∃ a v, i = .writeReg a v
  · obtain ⟨a, v, rfl⟩ := hwrite
    obtain ⟨h', he, -⟩ := exec_writeReg_overlay s.pending h hx
    exact ⟨h', he⟩
  · exact ⟨h, exec_overlay s.pending h hread (fun a v hi => hwrite ⟨a, v, hi⟩) hx⟩

end Sys2Proof.Machine
end

section
/-! PROOF. The step on a given move: the host's accesses to the window (20_memory.md R61 to R66, 10_state.md R22, R23), the
commands it writes (40_command_port.md R100), the reset input (70_reset_and_hazards.md R250 to R252), the completion sequencer
and the channel (44_dma_sequencer.md R196 to R199, 60_exceptions.md R232). -/

namespace Sys2Proof.Machine

open Sys2Proof.Laws

/-! ## The next move -/

section
variable {s : State} {e : Event} {rest : List Event}

/-- R15: a step whose move runs no command. -/
theorem step_of_move (hi : s.inputs = e :: rest) (hf : fetchWord s.params e = none) :
    step s = .next (State.move { s with inputs := rest } e) := by
  simp only [step, hi, hf]

/-- R253: a step with no move left. -/
theorem step_of_idle (hi : s.inputs = []) : step s = .next s.complete := by
  simp only [step, hi, State.idle]

/-- R100: a step whose move is a host write to CMD. -/
theorem step_of_commandWrite {addr : BusAddress} {bytes : List Byte} {w : Word} (hi : s.inputs = .write addr bytes :: rest)
    (hw : decodedWrite s.params addr bytes = some (0, w)) : step s = executeWord w { s with inputs := rest } := by
  have hf : fetchWord s.params (.write addr bytes) = some w := by simp [fetchWord, commandOfWrite, hw]
  simp only [step, hi, hf]
  rfl

/-- R22, R66: a step whose move is any other host write. -/
theorem step_of_registerWrite {addr : BusAddress} {bytes : List Byte} {o : Byte} {w : Word}
    (hi : s.inputs = .write addr bytes :: rest) (hw : decodedWrite s.params addr bytes = some (o, w)) (ho : o ≠ 0) :
    step s = .next (State.writeRegister { s with inputs := rest } o w) := by
  have hf : fetchWord s.params (.write addr bytes) = none := by
    simp only [fetchWord, commandOfWrite, hw]
    exact if_neg ho
  rw [step_of_move hi hf]
  simp only [State.move, State.hostWrite, hw]

/-- R61: a step whose move is a host write that the window ignores. -/
theorem step_of_ignoredWrite {addr : BusAddress} {bytes : List Byte} (hi : s.inputs = .write addr bytes :: rest)
    (hw : decodedWrite s.params addr bytes = none) : step s = .next { s with inputs := rest } := by
  rw [step_of_move hi (by simp only [fetchWord, commandOfWrite, hw])]
  simp only [State.move, State.hostWrite, hw]

/-- R61, R62: a step whose move is a host read of the window. -/
theorem step_of_read {addr : BusAddress} {size : Nat} {o : Byte} (hi : s.inputs = .read addr size :: rest)
    (ho : addr.inWindow s.params.l3ccBase = some o) :
    step s = .next { s with inputs := rest, rdata := s.readBytes o size } := by
  rw [step_of_move hi rfl]
  simp only [State.move, State.hostRead, ho]
  rfl

/-- R196: a step of the completion sequencer, by the move or of its own accord (log 2). -/
theorem step_of_complete (hi : s.inputs = .complete :: rest ∨ (s.inputs = [] ∧ rest = [])) :
    step s = .next (State.complete { s with inputs := rest }) := by
  obtain hi | ⟨hi, rfl⟩ := hi
  · exact step_of_move hi rfl
  · rw [step_of_idle hi]
    congr 2
    rw [← hi]

end

/-! ## Decoding an access (R60 to R62) -/

/-- R61, R62: the bytes of a word are four. -/
theorem length_of_wordOfBytes {bytes : List Byte} {w : Word} (h : wordOfBytes bytes = some w) : bytes.length = 4 := by
  unfold wordOfBytes at h
  split at h
  · rfl
  · cases h

section
variable {p : Params} {addr : BusAddress} {bytes : List Byte} {o : Byte}

/-- R61: an aligned host write of one word. -/
theorem decodedWrite_eq_some {w : Word} (ha : addr.inWindow p.l3ccBase = some o) (ho : o.toNat % 4 = 0)
    (hw : wordOfBytes bytes = some w) : decodedWrite p addr bytes = some (o, w) := by
  simp [decodedWrite, ha, hw, decodedAccess, ho, length_of_wordOfBytes hw]

/-- R61: a host write of another size, or misaligned. -/
theorem decodedWrite_eq_none (ha : addr.inWindow p.l3ccBase = some o) (h : o.toNat % 4 ≠ 0 ∨ bytes.length ≠ 4) :
    decodedWrite p addr bytes = none := by
  have hno : decodedAccess o bytes.length = false := by simpa [decodedAccess, imp_iff_not_or] using h
  unfold decodedWrite
  split
  · next o' w ho _ =>
    obtain rfl := Option.some.inj (ha.symm.trans ho)
    rw [hno]
    rfl
  · rfl

end

/-- Settles O7: the access decodes to the word, and a word that does not decode raises BAD_OPCODE. -/
theorem stepRunsTheWrittenCommand : Obligations.StepRunsTheWrittenCommand := by
  intro s addr bytes rest w hi ha hw
  have hstep := step_of_commandWrite hi (decodedWrite_eq_some ha rfl hw)
  exact ⟨fun i hd => hstep.trans (executeWord_of_ok hd _), fun r hd => hstep.trans (executeWord_of_error hd _)⟩

/-- Settles O10: such an access decodes to nothing. -/
theorem undecodedAccessesAreIgnored : Obligations.UndecodedAccessesAreIgnored := by
  intro s addr o rest ha
  refine ⟨fun bytes h hi => step_of_ignoredWrite hi (decodedWrite_eq_none ha h), fun size h hi => ?_⟩
  have hno : decodedAccess o size = false := by simpa [decodedAccess, imp_iff_not_or] using h
  rw [step_of_read hi ha, State.readBytes, hno]
  rfl

/-! ## Commands and waiting completions (R71, R104) -/

/-- R101, R104: a word does the same with any other count of delivered completions. -/
theorem executeWord_pending {w : Word} {s t : State} (h : executeWord w s = .next t) (n : Nat) :
    executeWord w { s with pending := n } = .next { t with pending := n } := by
  cases hd : decodeWord w with
  | ok i =>
    rw [executeWord_of_ok hd] at h ⊢
    exact exec_pending h n
  | error r =>
    rw [executeWord_of_error hd] at h ⊢
    obtain rfl := Host.Outcome.next.inj h
    rfl

/-- R101, R104: what a word leaves as it was, and what it sends. -/
theorem executeWord_leaves_completions {w : Word} {s t : State} (h : executeWord w s = .next t) :
    t.inputs = s.inputs ∧ t.pending = s.pending ∧ t.stream.elapsed = s.stream.elapsed ∧ .notify ∉ s.newOutputs t := by
  cases hd : decodeWord w with
  | ok i =>
    rw [executeWord_of_ok hd] at h
    have hrun := exec_run h
    obtain ⟨outs, htrace, -, houts⟩ := hrun.outputs
    refine ⟨hrun.inputs, hrun.pending, hrun.stream.elapsed, fun hmem => ?_⟩
    rw [State.newOutputs, htrace, List.drop_left] at hmem
    exact houts _ hmem
  | error r =>
    rw [executeWord_of_error hd] at h
    obtain rfl := Host.Outcome.next.inj h
    exact ⟨rfl, rfl, rfl, by simp [State.newOutputs]⟩

/-- Settles O8: the move is used up and the word is executed, whatever the count is. -/
theorem commandsLeaveCompletionsPending : Obligations.CommandsLeaveCompletionsPending := by
  intro s w rest hi
  have hw (p : Params) : decodedWrite p (.offset 0) (bytesOfWord w) = some (0, w) :=
    decodedWrite_eq_some rfl rfl (wordOfBytes_bytesOfWord w)
  obtain ⟨t, ht⟩ := executeWord_next w { s with inputs := rest }
  obtain ⟨hinputs, hpending, helapsed, hnotify⟩ := executeWord_leaves_completions ht
  refine ⟨t, (step_of_commandWrite hi (hw _)).trans ht, hinputs, hpending, helapsed, hnotify, fun n => ?_⟩
  exact (step_of_commandWrite (s := { s with pending := n }) hi (hw _)).trans (executeWord_pending ht n)

/-! ## Reading a register (R22, R23) -/

/-- R62: byte lane `k` of a word. -/
theorem bytesOfWord_getElem? (v : Word) {k : Nat} (hk : k < 4) : (bytesOfWord v)[k]? = some (v.extractLsb' (8 * k) 8) := by
  obtain rfl | rfl | rfl | rfl : k = 0 ∨ k = 1 ∨ k = 2 ∨ k = 3 := by omega
  all_goals rfl

/-- R22, R30: LINES as a number. -/
theorem Lines.word_toNat (l : Lines) : l.word.toNat = 4 * l.mode.toNat + 2 * l.dat.toNat + l.clk.toNat := by
  simp only [Lines.word, append_toNat, BitVec.toNat_ofBool, BitVec.toNat_ofNat]
  omega

theorem Lines.word_getLsbD (l : Lines) :
    l.word.getLsbD 0 = l.clk ∧ l.word.getLsbD 1 = l.dat ∧ l.word.getLsbD 2 = l.mode := by
  obtain ⟨clk, dat, mode⟩ := l
  revert clk dat mode
  decide

/-- R22, R66: the offsets from 0x54 on are reserved. -/
theorem State.readRegister_reserved (s : State) {o : Byte} (h : o = 0 ∨ 0x54 ≤ o.toNat) : s.readRegister o = 0 := by
  obtain rfl | h := h
  · rfl
  · unfold State.readRegister
    split
    rotate_right
    · rfl
    all_goals omega

/-- Settles O11, offset by offset. -/
theorem decodedReadsReturnLanes : Obligations.DecodedReadsReturnLanes := by
  intro s addr o rest ha ho hi
  have hread : s.readBytes o 4 = bytesOfWord (s.readRegister o) := if_pos (by simp [decodedAccess, ho])
  refine ⟨_, s.readRegister o, hread ▸ step_of_read hi ha, rfl, fun k hk => bytesOfWord_getElem? _ hk, rfl,
    fun p x hmem hp => ?_, fun p n hmem hp => ?_, ?_, s.readRegister_reserved⟩
  · simp only [List.mem_cons, Prod.mk.injEq, List.not_mem_nil, or_false] at hmem
    subst hp
    obtain ⟨rfl, rfl⟩ | ⟨rfl, rfl⟩ | ⟨rfl, rfl⟩ | ⟨rfl, rfl⟩ | ⟨rfl, rfl⟩ | ⟨rfl, rfl⟩ | ⟨rfl, rfl⟩ | ⟨rfl, rfl⟩ |
      ⟨rfl, rfl⟩ | ⟨rfl, rfl⟩ | ⟨rfl, rfl⟩ := hmem
    all_goals rfl
  · simp only [List.mem_cons, Prod.mk.injEq, List.not_mem_nil, or_false] at hmem
    subst hp
    obtain ⟨rfl, rfl⟩ | ⟨rfl, rfl⟩ | ⟨rfl, rfl⟩ | ⟨rfl, rfl⟩ | ⟨rfl, rfl⟩ | ⟨rfl, rfl⟩ | ⟨rfl, rfl⟩ := hmem
    all_goals exact BitVec.toNat_setWidth_of_le (by decide)
  · rintro rfl
    obtain ⟨hclk, hdat, hmode⟩ := s.lines.word_getLsbD
    refine ⟨hclk, hdat, hmode, ?_⟩
    rw [State.readRegister_lines, Lines.word_toNat]
    have := s.lines.clk.toNat_lt
    have := s.lines.dat.toNat_lt
    have := s.lines.mode.toNat_lt
    omega

/-- R23: STATUS as a number. -/
theorem State.statusWord_toNat (s : State) :
    s.statusWord.toNat =
      2 ^ 13 * s.stream.stray.toNat + 2 ^ 12 * s.stream.overrun.toNat + 2 ^ 10 * s.stream.descLoaded.toNat +
        2 ^ 9 * s.periodIrq.toNat + 2 ^ 8 * s.stream.configured.toNat + 2 ^ 7 * s.stream.opened.toNat +
        2 ^ 6 * s.stream.running.toNat + 2 ^ 4 * s.stream.state.code.toNat + s.err.code.toNat := by
  simp only [State.statusWord, append_toNat, BitVec.toNat_ofBool, BitVec.toNat_ofNat]
  omega

/-- A bit of a word, on numbers. -/
theorem getLsbD_eq_of_toNat {n : Nat} {v : BitVec n} {k : Nat} {b : Bool} (h : v.toNat / 2 ^ k % 2 = b.toNat) :
    v.getLsbD k = b := by
  rw [BitVec.getLsbD, Nat.testBit_eq_decide_div_mod_eq, h]
  cases b <;> rfl

/-- Settles O13: STATUS is the sum of its fields, each below the place of the next. -/
theorem statusWordFields : Obligations.StatusWordFields := by
  intro s
  rw [State.readRegister_status]
  have hword := s.statusWord_toNat
  have herr := s.err.code.isLt
  have hstate := s.stream.state.code.isLt
  have hrunning := s.stream.running.toNat_lt
  have hopened := s.stream.opened.toNat_lt
  have hconfigured := s.stream.configured.toNat_lt
  have hirq := s.periodIrq.toNat_lt
  have hloaded := s.stream.descLoaded.toNat_lt
  have hoverrun := s.stream.overrun.toNat_lt
  have hstray := s.stream.stray.toNat_lt
  have hcode : s.statusWord.extractLsb' 0 4 = s.err.code := extractLsb'_eq_of_toNat (by omega)
  have hstatecode : s.statusWord.extractLsb' 4 2 = s.stream.state.code := extractLsb'_eq_of_toNat (by omega)
  refine ⟨fun e n hmem he => ?_, fun q n hmem hq => ?_, ?_, ?_, ?_, ?_, ?_, ?_, ?_, ?_, ?_⟩
  · simp only [List.mem_cons, Prod.mk.injEq, List.not_mem_nil, or_false] at hmem
    rw [hcode, he]
    obtain ⟨rfl, rfl⟩ | ⟨rfl, rfl⟩ | ⟨rfl, rfl⟩ | ⟨rfl, rfl⟩ | ⟨rfl, rfl⟩ | ⟨rfl, rfl⟩ | ⟨rfl, rfl⟩ | ⟨rfl, rfl⟩ |
      ⟨rfl, rfl⟩ := hmem
    all_goals rfl
  · simp only [List.mem_cons, Prod.mk.injEq, List.not_mem_nil, or_false] at hmem
    rw [hstatecode, hq]
    obtain ⟨rfl, rfl⟩ | ⟨rfl, rfl⟩ | ⟨rfl, rfl⟩ | ⟨rfl, rfl⟩ := hmem
    all_goals rfl
  · exact getLsbD_eq_of_toNat (by omega)
  · exact getLsbD_eq_of_toNat (by omega)
  · exact getLsbD_eq_of_toNat (by omega)
  · exact getLsbD_eq_of_toNat (by omega)
  · exact getLsbD_eq_of_toNat (by omega)
  · exact getLsbD_eq_of_toNat (by rw [Bool.toNat_false]; omega)
  · exact getLsbD_eq_of_toNat (by omega)
  · exact getLsbD_eq_of_toNat (by omega)
  · exact extractLsb'_eq_of_toNat (by rw [BitVec.ofNat_eq_ofNat, BitVec.toNat_zero]; omega)

/-! ## Writing a register (R22, R23, R66) -/

/-- R31: the low half of a word, read back. -/
theorem setWidth_setWidth_eq_and (w : Word) : (w.setWidth 16).setWidth 32 = w &&& 0xFFFF := by
  apply BitVec.eq_of_toNat_eq
  have hmask : (0xFFFF : Word).toNat = 2 ^ 16 - 1 := rfl
  rw [BitVec.toNat_and, hmask, Nat.and_two_pow_sub_one_eq_mod, BitVec.toNat_setWidth_of_le (by decide), BitVec.toNat_setWidth]

/-- R23: the sticky bits of STATUS stand above twelve others. -/
theorem State.statusWord_eq_append (s : State) :
    s.statusWord =
      0#18 ++ BitVec.ofBool s.stream.stray ++ BitVec.ofBool s.stream.overrun ++ s.statusWord.extractLsb' 0 12 := by
  apply BitVec.eq_of_toNat_eq
  have hword := s.statusWord_toNat
  have herr := s.err.code.isLt
  have hstate := s.stream.state.code.isLt
  have hrunning := s.stream.running.toNat_lt
  have hopened := s.stream.opened.toNat_lt
  have hconfigured := s.stream.configured.toNat_lt
  have hirq := s.periodIrq.toNat_lt
  have hloaded := s.stream.descLoaded.toNat_lt
  rw [append_toNat, append_toNat, append_toNat, extract_toNat, BitVec.toNat_ofBool, BitVec.toNat_ofBool, BitVec.toNat_ofNat]
  omega

/-- A field of one bit. -/
theorem extractLsb'_one_eq_ofBool {n : Nat} (v : BitVec n) (k : Nat) : v.extractLsb' k 1 = BitVec.ofBool (v.getLsbD k) :=
  extractLsb'_eq_of_toNat (by rw [BitVec.toNat_ofBool, BitVec.getLsbD, Nat.toNat_testBit, pow_one])

/-- R23: what a write of `w` to STATUS leaves of it. -/
theorem stickyMask_eq_append (w : Word) :
    ~~~(w &&& 0x3000) =
      BitVec.allOnes 18 ++ BitVec.ofBool (!w.getLsbD 13) ++ BitVec.ofBool (!w.getLsbD 12) ++ BitVec.allOnes 12 := by
  have hsplit : w = w.extractLsb' 14 18 ++ w.extractLsb' 13 1 ++ w.extractLsb' 12 1 ++ w.extractLsb' 0 12 := by
    apply BitVec.eq_of_toNat_eq
    have := w.isLt
    rw [append_toNat, append_toNat, append_toNat, extract_toNat, extract_toNat, extract_toNat, extract_toNat]
    omega
  have hand : w &&& (0#18 ++ BitVec.allOnes 1 ++ BitVec.allOnes 1 ++ 0#12) =
      0#18 ++ w.extractLsb' 13 1 ++ w.extractLsb' 12 1 ++ 0#12 := by
    conv_lhs => rw [hsplit, BitVec.and_append, BitVec.and_append, BitVec.and_append, BitVec.and_allOnes, BitVec.and_allOnes,
      BitVec.and_zero, BitVec.and_zero]
  have hmask : w &&& 0x3000 = 0#18 ++ w.extractLsb' 13 1 ++ w.extractLsb' 12 1 ++ 0#12 := hand
  rw [hmask, BitVec.not_append, BitVec.not_append, BitVec.not_append, extractLsb'_one_eq_ofBool, extractLsb'_one_eq_ofBool,
    BitVec.not_ofBool, BitVec.not_ofBool, BitVec.not_zero, BitVec.not_zero]

/-- R23: STATUS after a host write of `w` to it. -/
theorem State.statusWord_clearSticky (s : State) (w : Word) :
    (s.setStream (s.stream.clearSticky w)).statusWord = s.statusWord &&& ~~~(w &&& 0x3000) := by
  have hlow : (s.setStream (s.stream.clearSticky w)).statusWord.extractLsb' 0 12 = s.statusWord.extractLsb' 0 12 := by
    apply extractLsb'_eq_of_toNat
    have hword := s.statusWord_toNat
    have hword' := (s.setStream (s.stream.clearSticky w)).statusWord_toNat
    simp only [State.setStream, Stream.clearSticky, State.periodIrq] at hword hword' ⊢
    rw [extract_toNat]
    omega
  rw [State.statusWord_eq_append, hlow, stickyMask_eq_append]
  conv_rhs => rw [State.statusWord_eq_append]
  rw [BitVec.and_append, BitVec.and_append, BitVec.and_append, BitVec.and_allOnes, BitVec.and_allOnes,
    BitVec.ofBool_and_ofBool, BitVec.ofBool_and_ofBool]
  rfl

/-- R22, R66: a host write leaves what every other offset reads as. -/
theorem State.readRegister_writeRegister_of_ne (s : State) {o o' : Byte} (w : Word) (hne : o' ≠ o) :
    (s.writeRegister o w).readRegister o' = s.readRegister o' := by
  have hother (n : Byte) (h : o'.toNat = n.toNat) : o ≠ n :=
    fun ho => hne (BitVec.eq_of_toNat_eq (h.trans (congrArg BitVec.toNat ho.symm)))
  rw [State.writeRegister_eq]
  unfold State.readRegister
  split
  · next h => exact if_neg (hother 0x04 h)
  · next h => exact if_neg (hother 0x08 h)
  · next h => exact if_neg (hother 0x0C h)
  · rfl
  · rfl
  · rfl
  · next h =>
    simp only [State.statusWord, State.periodIrq, if_neg (hother 0x1C h)]
  · next h => exact congrArg _ (if_neg (hother 0x20 h))
  · next h => exact congrArg _ (if_neg (hother 0x24 h))
  · next h => exact congrArg _ (if_neg (hother 0x28 h))
  · next h => exact congrArg _ (if_neg (hother 0x2C h))
  · next h => exact congrArg _ (if_neg (hother 0x30 h))
  · rfl
  all_goals dsimp only
  all_goals split <;> rfl

/-- R22, R23: what the offset of a host write then reads as. -/
theorem State.readRegister_writeRegister_same (s : State) (o : Byte) (w : Word) :
    (s.writeRegister o w).readRegister o =
      if o.toNat ∈ [0x04, 0x08, 0x0C] then w
      else if o.toNat ∈ [0x20, 0x24, 0x28, 0x2C, 0x30] then w &&& 0xFFFF
      else if o.toNat = 0x1C then s.readRegister o &&& ~~~(w &&& 0x3000)
      else s.readRegister o := by
  have hoffset (n : Byte) (h : o.toNat = n.toNat) : o = n := BitVec.eq_of_toNat_eq h
  unfold State.writeRegister
  split
  · next h => cases hoffset 0x04 h; rfl
  · next h => cases hoffset 0x08 h; rfl
  · next h => cases hoffset 0x0C h; rfl
  · next h => cases hoffset 0x1C h; exact s.statusWord_clearSticky w
  · next h => cases hoffset 0x20 h; exact setWidth_setWidth_eq_and w
  · next h => cases hoffset 0x24 h; exact setWidth_setWidth_eq_and w
  · next h => cases hoffset 0x28 h; exact setWidth_setWidth_eq_and w
  · next h => cases hoffset 0x2C h; exact setWidth_setWidth_eq_and w
  · next h => cases hoffset 0x30 h; exact setWidth_setWidth_eq_and w
  · next h04 h08 h0C h1C h20 h24 h28 h2C h30 =>
    have hargs : o.toNat ∉ [0x04, 0x08, 0x0C] := by simpa using ⟨h04, h08, h0C⟩
    have htiming : o.toNat ∉ [0x20, 0x24, 0x28, 0x2C, 0x30] := by simpa using ⟨h20, h24, h28, h2C, h30⟩
    rw [if_neg hargs, if_neg htiming, if_neg h1C]

/-- Settles O12: the access decodes to the offset and the word, and the offset is no CMD. -/
theorem hostWriteThenReadBack : Obligations.HostWriteThenReadBack := by
  intro s addr o w rest ha ho hne hi
  refine ⟨_, step_of_registerWrite hi (decodedWrite_eq_some ha ho (wordOfBytes_bytesOfWord w)) hne,
    State.readRegister_writeRegister_same .., fun o' ho' => State.readRegister_writeRegister_of_ne _ w ho', ?_⟩
  have hhalf : w.setWidth 16 = w.extractLsb' 0 16 := BitVec.setWidth_eq_extractLsb' (by decide)
  have hclear (b : Bool) (k : Nat) : (b && !w.getLsbD k) = if w.getLsbD k = true then false else b := by
    cases w.getLsbD k <;> simp
  rw [State.writeRegister_eq, hhalf]
  by_cases hstatus : o = 0x1C
  · simp only [hstatus, if_true, true_and, Stream.clearSticky, hclear]
  · simp only [hstatus, if_false, false_and]

/-! ## Reset (R250 to R252) -/

/-- R8: one of two distinct places around a circle of `n`. -/
theorem add_one_add_mod_ne {n q : Nat} (x : Nat) (hq : q < n) (hn : 2 ≤ n) : (q + 1 + x % (n - 1)) % n ≠ q := by
  have hx : x % (n - 1) < n - 1 := Nat.mod_lt _ (by omega)
  obtain hlt | hge := Nat.lt_or_ge (q + 1 + x % (n - 1)) n
  · rw [Nat.mod_eq_of_lt hlt]
    omega
  · rw [Nat.mod_eq_sub_mod hge, Nat.mod_eq_of_lt (by omega)]
    omega

/-- R8: the parameters of `State.reset` meet the constraints. -/
theorem Config.params_wf : Config.params.wf := by
  have hseed := Config.regCountSeed.isLt
  have hcount : 2 ≤ Config.regCount := Nat.le_add_left 2 _
  have hhpl : Config.quirkHPL < Config.regCount := Nat.mod_lt _ (by omega)
  refine ⟨by show 1 ≤ Config.regCount; omega, ?_, Nat.mod_lt _ (by omega), hhpl, Nat.mod_lt _ (by omega),
    (add_one_add_mod_ne _ hhpl hcount).symm, by simp [Config.params]⟩
  show Config.regCountSeed.val + 2 ≤ 128
  omega

/-- Settles O15, invariant by invariant. -/
theorem resetStateIsGood : Obligations.ResetStateIsGood := by
  refine ⟨Config.params_wf, fun p hp => ?_⟩
  obtain ⟨-, -, -, -, -, -, hdefaults⟩ := id hp
  refine ⟨⟨hp, Stream.inv_atReset, ⟨rfl, rfl⟩, hdefaults, ⟨.nil, ?_⟩, rfl, ?_⟩, rfl⟩
  · exact fun a ha => absurd ha List.not_mem_nil
  · exact fun _ => nofun

/-- Settles O16: the move runs no command, and resets. -/
theorem resetInputRestoresResetState : Obligations.ResetInputRestoresResetState := by
  intro s codecPowerOn rest hi
  exact ⟨_, step_of_move hi rfl, ⟨rfl, rfl, rfl⟩, rfl⟩

/-- R101: what a word sends is appended to the trace. -/
theorem executeWord_trace {w : Word} {s t : State} (h : executeWord w s = .next t) : ∃ outs, t.trace = s.trace ++ outs := by
  obtain ⟨i, -, hx⟩ | ⟨r, -, hx⟩ := executeWord_cases w s
  · obtain ⟨outs, htrace, -⟩ := (exec_run (hx.symm.trans h)).outputs
    exact ⟨outs, htrace⟩
  · obtain rfl := Host.Outcome.next.inj (hx.symm.trans h)
    exact ⟨[], (List.append_nil _).symm⟩

/-- R251: a step whose move is a reset inside a command. -/
theorem step_of_resetDuring {s ran : State} {w : Word} {cut : Nat} {codecPowerOn : Bool} {rest : List Event}
    (hi : s.inputs = .resetDuring w cut codecPowerOn :: rest) (hran : executeWord w { s with inputs := rest } = .next ran) :
    step s = .next (State.abandon cut codecPowerOn { s with inputs := rest } ran) := by
  simp only [step, hi, fetchWord, hran, settleCommand]

/-- R251: for L3CC's state, the command that a reset cuts has not run. -/
theorem State.abandon_eq (cut : Nat) (codecPowerOn : Bool) (before ran : State) :
    State.abandon cut codecPowerOn before ran =
      { before.resetInput codecPowerOn with
        trace := before.trace ++ (ran.trace.drop before.trace.length).take cut ++ [.reset]
        linkFaultAt := ran.linkFaultAt
        modelFault := (before.emitAll ((ran.trace.drop before.trace.length).take cut)).modelFault } := by
  simp [State.abandon, State.resetInput]

/-- Settles O17: outputs change only the trace, the lines, the channel and the fault record, and a reset restores two of them. -/
theorem resetInsideCommandIsResetBefore : Obligations.ResetInsideCommandIsResetBefore := by
  intro s w cut codecPowerOn rest hi
  obtain ⟨ran, hran⟩ := executeWord_next w { s with inputs := rest }
  obtain ⟨outs, htrace⟩ := executeWord_trace hran
  refine ⟨_, _, ran, outs, step_of_resetDuring hi hran, step_of_move rfl rfl, ?_, hran, htrace, ?_⟩ <;>
    rw [State.abandon_eq]
  · rfl
  · rw [htrace, List.drop_left]

/-! ## The completion sequencer and the channel (R196 to R199, R232) -/

/-- R197: the next offset, where the sum does not wrap. -/
theorem Stream.nextOffset_eq {t : Stream} (h : t.offset.toNat + t.period.toNat < 2 ^ 32) :
    t.nextOffset =
      if t.size.toNat ≤ t.offset.toNat + t.period.toNat then 0 else BitVec.ofNat 32 (t.offset.toNat + t.period.toNat) := by
  have hsum : (t.offset + t.period).toNat = t.offset.toNat + t.period.toNat := by
    rw [BitVec.toNat_add, Nat.mod_eq_of_lt h]
  have hend : t.size ≤ t.offset + t.period ↔ t.size.toNat ≤ t.offset.toNat + t.period.toNat := by
    rw [BitVec.le_def, hsum]
  have hnext : BitVec.ofNat 32 (t.offset.toNat + t.period.toNat) = t.offset + t.period := by
    rw [← hsum, BitVec.ofNat_toNat, BitVec.setWidth_eq]
  simp only [Stream.nextOffset, hend, hnext]

/-- R196: the sequencer's turn with a completion delivered. -/
theorem step_of_delivered {s : State} {rest : List Event} {n : Nat}
    (hi : s.inputs = .complete :: rest ∨ (s.inputs = [] ∧ rest = [])) (hp : s.pending = n + 1) :
    step s = .next (State.takeCompletion { s with inputs := rest, pending := n }) := by
  rw [step_of_complete hi]
  simp [State.complete, State.setPending, hp]

/-- Settles O49: the sequencer's turn with nothing delivered, and with one completion that is effective. -/
theorem effectiveCompletion : Obligations.EffectiveCompletion := by
  intro s rest hi
  refine ⟨fun hp => (step_of_complete hi).trans (congrArg _ (if_pos hp)), fun n hp ho hn hsum => ?_⟩
  have helapsed : s.stream.elapsed + 1 = BitVec.ofNat 32 (s.stream.elapsed.toNat + 1) := by
    rw [BitVec.ofNat_add, BitVec.ofNat_toNat, BitVec.setWidth_eq]
    rfl
  have hturn := State.takeCompletion_effective { s with inputs := rest, pending := n } ho hn
  rw [step_of_delivered hi hp, hturn]
  simp only [Stream.advance, Stream.nextOffset_eq hsum, helapsed]

/-- R23: a sticky bit that a host write clears was written as 1 in STATUS. -/
theorem clearSticky_cleared {b : Bool} {w : Word} {k : Nat} (hb : b = true) (h : (b && !w.getLsbD k) = false) :
    w.getLsbD k = true := by
  subst hb
  simpa using h

/-- R199: outside reset a sticky bit is cleared only by a host write to STATUS. -/
theorem step_sticky {s t : State} (h : step s = .next t) (hreset : s.nextIsReset = false) :
    (s.stream.overrun = true → t.stream.overrun = false →
      ∃ addr bytes rest w, s.inputs = .write addr bytes :: rest ∧
        decodedWrite s.params addr bytes = some (0x1C, w) ∧ w.getLsbD 12 = true) ∧
    (s.stream.stray = true → t.stream.stray = false →
      ∃ addr bytes rest w, s.inputs = .write addr bytes :: rest ∧
        decodedWrite s.params addr bytes = some (0x1C, w) ∧ w.getLsbD 13 = true) := by
  obtain hk | ⟨addr, bytes, rest, o, w, u, hi, hw, hu, rfl⟩ := step_registers h hreset
  · exact ⟨fun hs ht => absurd (ht.symm.trans (hk.overrun hs)) Bool.false_ne_true,
      fun hs ht => absurd (ht.symm.trans (hk.stray hs)) Bool.false_ne_true⟩
  · rw [State.writeRegister_eq]
    by_cases ho : o = 0x1C
    · subst ho
      exact ⟨fun hs ht => ⟨addr, bytes, rest, w, hi, hw, clearSticky_cleared (hu.overrun hs) ht⟩,
        fun hs ht => ⟨addr, bytes, rest, w, hi, hw, clearSticky_cleared (hu.stray hs) ht⟩⟩
    · simp only [if_neg ho]
      exact ⟨fun hs ht => absurd (ht.symm.trans (hu.overrun hs)) Bool.false_ne_true,
        fun hs ht => absurd (ht.symm.trans (hu.stray hs)) Bool.false_ne_true⟩

/-- R253: while the stream is not open, a step that runs no command and is no reset is silent. -/
theorem step_closed_silent {s t : State} (h : step s = .next t) (hreset : s.nextIsReset = false)
    (ho : s.stream.opened = false) (hnone : s.nextCommand = none) : t.stream.opened = false ∧ t.trace = s.trace := by
  cases step_effect h with
  | reset p u hnext => exact absurd (hreset.symm.trans hnext) Bool.false_ne_true
  | quiet e _ hq =>
    refine ⟨hq.stream.opened.trans ho, ?_⟩
    cases hq.completion with
    | uncounted htrace => exact htrace
    | counted _ hopened => exact absurd (ho.symm.trans hopened) Bool.false_ne_true
  | command i rest hi => exact absurd (hnone.symm.trans hi) nofun

/-- Settles O50, by what the completion finds; after reset the stream is not open. -/
theorem droppedCompletions : Obligations.DroppedCompletions := by
  refine ⟨fun s rest n hi hp => ⟨fun ho => ?_, fun ho hn => ?_⟩, fun s t h hreset => ?_, fun p rest => ⟨rfl, ?_⟩⟩
  · exact (step_of_delivered hi hp).trans
      (congrArg _ (State.takeCompletion_stray { s with inputs := rest, pending := n } ho))
  · exact (step_of_delivered hi hp).trans
      (congrArg _ (State.takeCompletion_overrun { s with inputs := rest, pending := n } ho hn))
  · obtain ⟨hoverrun, hstray⟩ := step_sticky h hreset
    exact ⟨hoverrun, hstray, step_closed_silent h hreset⟩
  · exact ⟨_, step_of_move rfl rfl, (step_of_delivered (n := 0) (.inl rfl) rfl).trans
      (congrArg _ (State.takeCompletion_stray _ rfl))⟩

/-- Settles O51, by whether the channel's step is enabled. -/
theorem channelSignalsOnce : Obligations.ChannelSignalsOnce := by
  intro s rest
  refine ⟨fun hi => step_of_move hi rfl, fun hi ha => ?_, fun hi ha => ?_, fun hi hl => ?_, fun hi hl => ?_⟩ <;>
    rw [step_of_move hi rfl, State.move]
  · exact congrArg _ (if_pos ha)
  · exact congrArg _ (if_neg (by simp [ha]))
  · exact congrArg _ (if_pos hl)
  · exact congrArg _ (if_neg (by simp [hl]))

end Sys2Proof.Machine
end

section
/-! PROOF. The saturation of the PLL's fraction (43_pll.md R168). -/

namespace Sys2Proof.Machine

section
variable {sEff : Nat}

/-- R168: when the fraction rounds up to 2^24, in naturals. -/
theorem pllKfull_eq_two_pow_iff (target : Nat) (h : 0 < sEff) :
    pllKfull target sEff = 2 ^ 24 ↔ 2 ^ 25 * sEff ≤ 2 ^ 25 * (target % sEff) + sEff := by
  have hle := pllKfull_le target h
  have hge : 2 ^ 24 ≤ pllKfull target sEff ↔ 2 ^ 24 * (2 * sEff) ≤ 2 ^ 25 * (target % sEff) + sEff := by
    rw [pllKfull_eq_div target h]
    exact Nat.le_div_iff_mul_le (by omega)
  omega

/-- R168: the same, by the exact quotient. -/
theorem pllKfull_eq_two_pow_iff_quotient (target : Nat) (h : 0 < sEff) :
    pllKfull target sEff = 2 ^ 24 ↔ 1 - 1 / 2 ^ 25 ≤ ((target % sEff : ℕ) : ℚ) / (sEff : ℚ) := by
  have hpos : (0 : ℚ) < sEff := Nat.cast_pos.mpr h
  have hcast : 2 ^ 25 * sEff ≤ 2 ^ 25 * (target % sEff) + sEff ↔
      (2 ^ 25 * sEff : ℚ) ≤ 2 ^ 25 * ((target % sEff : ℕ) : ℚ) + sEff := by exact_mod_cast Iff.rfl
  rw [pllKfull_eq_two_pow_iff target h, hcast, le_div_iff₀ hpos]
  constructor <;> intro hle <;> linarith

/-- R162: the exact ratio is Ndiv and the quotient of nmod. -/
theorem ratio_eq_div_add_mod_div (target : Nat) (h : 0 < sEff) :
    (target : ℚ) / sEff = ((target / sEff : ℕ) : ℚ) + ((target % sEff : ℕ) : ℚ) / sEff := by
  have hne : (sEff : ℚ) ≠ 0 := Nat.cast_ne_zero.mpr h.ne'
  have hdiv : (target : ℚ) = sEff * ((target / sEff : ℕ) : ℚ) + ((target % sEff : ℕ) : ℚ) := by
    exact_mod_cast (Nat.div_add_mod target sEff).symm
  rw [eq_comm, ← mul_right_inj' hne, mul_add, mul_div_cancel₀ _ hne, mul_div_cancel₀ _ hne, ← hdiv]

end

/-- Settles O38: the bounds on the loss are the bounds on nmod / s_eff, from saturation and from being below 1. -/
theorem pllSaturation : Obligations.PllSaturation := by
  intro target sEff h
  have hmod : target % sEff < sEff := Nat.mod_lt _ h
  have hiff := pllKfull_eq_two_pow_iff target h
  refine ⟨pllKfull_eq_two_pow_iff_quotient target h, fun hk => ?_, fun hlarge hmax => ?_, fun hk => ?_⟩
  · have := hiff.mp hk
    omega
  · exact hiff.mpr (by omega)
  · have hlow := (pllKfull_eq_two_pow_iff_quotient target h).mp hk
    have hhigh : ((target % sEff : ℕ) : ℚ) / sEff < 1 :=
      (div_lt_one (Nat.cast_pos.mpr h)).mpr (Nat.cast_lt.mpr hmod)
    rw [ratio_eq_div_add_mod_div target h]
    constructor <;> linarith

end Sys2Proof.Machine
end
